-- ==== Sys2Proof/Word.lean ====
section
/-! DEFINITION. The two sizes of value the machine holds: bytes and 16-bit words (spec/00_scope.md R7, R9). -/

namespace Sys2Proof

/-- A u8: register contents, memory bytes, operand bytes (R7, R9). -/
abbrev Byte := BitVec 8

/-- A u16: addresses and the program counter (R7, R9). -/
abbrev Word := BitVec 16

end Sys2Proof
end

