-- ==== Sys2Proof/Config.lean ====
section
/-! DEFINITION. The parameters spec/00_scope.md R8 says a model takes. They are plain data carried in the state
(`Machine.State.params`, log entry 1), so a statement about every state covers every choice of them. -/

namespace Sys2Proof

/-- `ADMITTED_OPCODES` (R8, 92_eei_decisions.md D1): which rows of the opcode table have a handler. -/
inductive AdmittedOpcodes where
  /-- All 151 documented opcodes (30_encoding.md R71). -/
  | official151
  /-- Only the 20 rows whose handler DNES names (30_encoding.md R77). -/
  | docNamed
deriving DecidableEq, Repr

/-- `POWER_ON_PC_SOURCE` (R8, D7): what `powerOn()` loads into PC. The spec leaves the choice open. -/
inductive PowerOnPcSource where
  /-- `Fixed(0xC000)`: the test-ROM entry point. -/
  | fixedC000
  /-- `ResetVector`: the word at 0xFFFC. -/
  | resetVector
deriving DecidableEq, Repr

/-- The parameters of R8 other than `INITIAL_MEMORY`, which is the state's memory itself. -/
structure Params where
  /-- `ADMITTED_OPCODES`. -/
  admitted : AdmittedOpcodes
  /-- `POWER_ON_PC_SOURCE`. -/
  powerOnPc : PowerOnPcSource
  /-- `ZP_PTR_WRAP` (D10): the second byte of a zero-page pointer wraps within the zero page. -/
  zpPtrWrap : Bool
  /-- `ENTRY_SETS_I` (D4): NMI, IRQ and BRK entry set the interrupt-disable flag. -/
  entrySetsI : Bool
deriving DecidableEq, Repr

/-- The defaults of R8. R8 gives `POWER_ON_PC_SOURCE` no default: `fixedC000` is the model's
(DESIGN CHOICE, log entry 2, unsafe). -/
def Params.default : Params :=
  { admitted := .official151, powerOnPc := .fixedC000, zpPtrWrap := false, entrySetsI := true }

end Sys2Proof
end

