-- ==== Sys2Proof/Syntax.lean ====
section
/-! DEFINITION. The instructions: one constructor per row of spec/opcode_table.json (30_encoding.md R71), each with its operand field
as R67 assembles it: `nn` immediate, `zz` zero-page address or pointer, `rr` branch offset, `hhll` absolute address, `ptr` pointer. -/

namespace Sys2Proof

/-- The 151 documented instructions (R71). -/
inductive Instr where
  /-- ADC, (indirect,X), 0x61 (R106). -/
  | adcIndX (zz : Byte)
  /-- ADC, zero page, 0x65 (R106). -/
  | adcZp (zz : Byte)
  /-- ADC, immediate, 0x69 (R106). -/
  | adcImm (nn : Byte)
  /-- ADC, absolute, 0x6D (R106). -/
  | adcAbs (hhll : Word)
  /-- ADC, (indirect),Y, 0x71 (R106). -/
  | adcIndY (zz : Byte)
  /-- ADC, zero page,X, 0x75 (R106). -/
  | adcZpX (zz : Byte)
  /-- ADC, absolute,Y, 0x79 (R106). -/
  | adcAbsY (hhll : Word)
  /-- ADC, absolute,X, 0x7D (R106). -/
  | adcAbsX (hhll : Word)
  /-- SBC, (indirect,X), 0xE1 (R107). -/
  | sbcIndX (zz : Byte)
  /-- SBC, zero page, 0xE5 (R107). -/
  | sbcZp (zz : Byte)
  /-- SBC, immediate, 0xE9 (R107). -/
  | sbcImm (nn : Byte)
  /-- SBC, absolute, 0xED (R107). -/
  | sbcAbs (hhll : Word)
  /-- SBC, (indirect),Y, 0xF1 (R107). -/
  | sbcIndY (zz : Byte)
  /-- SBC, zero page,X, 0xF5 (R107). -/
  | sbcZpX (zz : Byte)
  /-- SBC, absolute,Y, 0xF9 (R107). -/
  | sbcAbsY (hhll : Word)
  /-- SBC, absolute,X, 0xFD (R107). -/
  | sbcAbsX (hhll : Word)
  /-- AND, (indirect,X), 0x21 (R108). -/
  | andIndX (zz : Byte)
  /-- AND, zero page, 0x25 (R108). -/
  | andZp (zz : Byte)
  /-- AND, immediate, 0x29 (R108). -/
  | andImm (nn : Byte)
  /-- AND, absolute, 0x2D (R108). -/
  | andAbs (hhll : Word)
  /-- AND, (indirect),Y, 0x31 (R108). -/
  | andIndY (zz : Byte)
  /-- AND, zero page,X, 0x35 (R108). -/
  | andZpX (zz : Byte)
  /-- AND, absolute,Y, 0x39 (R108). -/
  | andAbsY (hhll : Word)
  /-- AND, absolute,X, 0x3D (R108). -/
  | andAbsX (hhll : Word)
  /-- ORA, (indirect,X), 0x01 (R109). -/
  | oraIndX (zz : Byte)
  /-- ORA, zero page, 0x05 (R109). -/
  | oraZp (zz : Byte)
  /-- ORA, immediate, 0x09 (R109). -/
  | oraImm (nn : Byte)
  /-- ORA, absolute, 0x0D (R109). -/
  | oraAbs (hhll : Word)
  /-- ORA, (indirect),Y, 0x11 (R109). -/
  | oraIndY (zz : Byte)
  /-- ORA, zero page,X, 0x15 (R109). -/
  | oraZpX (zz : Byte)
  /-- ORA, absolute,Y, 0x19 (R109). -/
  | oraAbsY (hhll : Word)
  /-- ORA, absolute,X, 0x1D (R109). -/
  | oraAbsX (hhll : Word)
  /-- EOR, (indirect,X), 0x41 (R110). -/
  | eorIndX (zz : Byte)
  /-- EOR, zero page, 0x45 (R110). -/
  | eorZp (zz : Byte)
  /-- EOR, immediate, 0x49 (R110). -/
  | eorImm (nn : Byte)
  /-- EOR, absolute, 0x4D (R110). -/
  | eorAbs (hhll : Word)
  /-- EOR, (indirect),Y, 0x51 (R110). -/
  | eorIndY (zz : Byte)
  /-- EOR, zero page,X, 0x55 (R110). -/
  | eorZpX (zz : Byte)
  /-- EOR, absolute,Y, 0x59 (R110). -/
  | eorAbsY (hhll : Word)
  /-- EOR, absolute,X, 0x5D (R110). -/
  | eorAbsX (hhll : Word)
  /-- CMP, (indirect,X), 0xC1 (R111). -/
  | cmpIndX (zz : Byte)
  /-- CMP, zero page, 0xC5 (R111). -/
  | cmpZp (zz : Byte)
  /-- CMP, immediate, 0xC9 (R111). -/
  | cmpImm (nn : Byte)
  /-- CMP, absolute, 0xCD (R111). -/
  | cmpAbs (hhll : Word)
  /-- CMP, (indirect),Y, 0xD1 (R111). -/
  | cmpIndY (zz : Byte)
  /-- CMP, zero page,X, 0xD5 (R111). -/
  | cmpZpX (zz : Byte)
  /-- CMP, absolute,Y, 0xD9 (R111). -/
  | cmpAbsY (hhll : Word)
  /-- CMP, absolute,X, 0xDD (R111). -/
  | cmpAbsX (hhll : Word)
  /-- CPX, immediate, 0xE0 (R112). -/
  | cpxImm (nn : Byte)
  /-- CPX, zero page, 0xE4 (R112). -/
  | cpxZp (zz : Byte)
  /-- CPX, absolute, 0xEC (R112). -/
  | cpxAbs (hhll : Word)
  /-- CPY, immediate, 0xC0 (R113). -/
  | cpyImm (nn : Byte)
  /-- CPY, zero page, 0xC4 (R113). -/
  | cpyZp (zz : Byte)
  /-- CPY, absolute, 0xCC (R113). -/
  | cpyAbs (hhll : Word)
  /-- BIT, zero page, 0x24 (R114). -/
  | bitZp (zz : Byte)
  /-- BIT, absolute, 0x2C (R114). -/
  | bitAbs (hhll : Word)
  /-- INC, zero page, 0xE6 (R115). -/
  | incZp (zz : Byte)
  /-- INC, absolute, 0xEE (R115). -/
  | incAbs (hhll : Word)
  /-- INC, zero page,X, 0xF6 (R115). -/
  | incZpX (zz : Byte)
  /-- INC, absolute,X, 0xFE (R115). -/
  | incAbsX (hhll : Word)
  /-- DEC, zero page, 0xC6 (R116). -/
  | decZp (zz : Byte)
  /-- DEC, absolute, 0xCE (R116). -/
  | decAbs (hhll : Word)
  /-- DEC, zero page,X, 0xD6 (R116). -/
  | decZpX (zz : Byte)
  /-- DEC, absolute,X, 0xDE (R116). -/
  | decAbsX (hhll : Word)
  /-- INX, implied, 0xE8 (R117). -/
  | inx
  /-- INY, implied, 0xC8 (R118). -/
  | iny
  /-- DEX, implied, 0xCA (R119). -/
  | dex
  /-- DEY, implied, 0x88 (R120). -/
  | dey
  /-- ASL, zero page, 0x06 (R126). -/
  | aslZp (zz : Byte)
  /-- ASL, accumulator, 0x0A (R126). -/
  | aslAcc
  /-- ASL, absolute, 0x0E (R126). -/
  | aslAbs (hhll : Word)
  /-- ASL, zero page,X, 0x16 (R126). -/
  | aslZpX (zz : Byte)
  /-- ASL, absolute,X, 0x1E (R126). -/
  | aslAbsX (hhll : Word)
  /-- LSR, zero page, 0x46 (R127). -/
  | lsrZp (zz : Byte)
  /-- LSR, accumulator, 0x4A (R127). -/
  | lsrAcc
  /-- LSR, absolute, 0x4E (R127). -/
  | lsrAbs (hhll : Word)
  /-- LSR, zero page,X, 0x56 (R127). -/
  | lsrZpX (zz : Byte)
  /-- LSR, absolute,X, 0x5E (R127). -/
  | lsrAbsX (hhll : Word)
  /-- ROL, zero page, 0x26 (R128). -/
  | rolZp (zz : Byte)
  /-- ROL, accumulator, 0x2A (R128). -/
  | rolAcc
  /-- ROL, absolute, 0x2E (R128). -/
  | rolAbs (hhll : Word)
  /-- ROL, zero page,X, 0x36 (R128). -/
  | rolZpX (zz : Byte)
  /-- ROL, absolute,X, 0x3E (R128). -/
  | rolAbsX (hhll : Word)
  /-- ROR, zero page, 0x66 (R129). -/
  | rorZp (zz : Byte)
  /-- ROR, accumulator, 0x6A (R129). -/
  | rorAcc
  /-- ROR, absolute, 0x6E (R129). -/
  | rorAbs (hhll : Word)
  /-- ROR, zero page,X, 0x76 (R129). -/
  | rorZpX (zz : Byte)
  /-- ROR, absolute,X, 0x7E (R129). -/
  | rorAbsX (hhll : Word)
  /-- LDA, (indirect,X), 0xA1 (R130). -/
  | ldaIndX (zz : Byte)
  /-- LDA, zero page, 0xA5 (R130). -/
  | ldaZp (zz : Byte)
  /-- LDA, immediate, 0xA9 (R130). -/
  | ldaImm (nn : Byte)
  /-- LDA, absolute, 0xAD (R130). -/
  | ldaAbs (hhll : Word)
  /-- LDA, (indirect),Y, 0xB1 (R130). -/
  | ldaIndY (zz : Byte)
  /-- LDA, zero page,X, 0xB5 (R130). -/
  | ldaZpX (zz : Byte)
  /-- LDA, absolute,Y, 0xB9 (R130). -/
  | ldaAbsY (hhll : Word)
  /-- LDA, absolute,X, 0xBD (R130). -/
  | ldaAbsX (hhll : Word)
  /-- LDX, immediate, 0xA2 (R131). -/
  | ldxImm (nn : Byte)
  /-- LDX, zero page, 0xA6 (R131). -/
  | ldxZp (zz : Byte)
  /-- LDX, absolute, 0xAE (R131). -/
  | ldxAbs (hhll : Word)
  /-- LDX, zero page,Y, 0xB6 (R131). -/
  | ldxZpY (zz : Byte)
  /-- LDX, absolute,Y, 0xBE (R131). -/
  | ldxAbsY (hhll : Word)
  /-- LDY, immediate, 0xA0 (R132). -/
  | ldyImm (nn : Byte)
  /-- LDY, zero page, 0xA4 (R132). -/
  | ldyZp (zz : Byte)
  /-- LDY, absolute, 0xAC (R132). -/
  | ldyAbs (hhll : Word)
  /-- LDY, zero page,X, 0xB4 (R132). -/
  | ldyZpX (zz : Byte)
  /-- LDY, absolute,X, 0xBC (R132). -/
  | ldyAbsX (hhll : Word)
  /-- STA, (indirect,X), 0x81 (R133). -/
  | staIndX (zz : Byte)
  /-- STA, zero page, 0x85 (R133). -/
  | staZp (zz : Byte)
  /-- STA, absolute, 0x8D (R133). -/
  | staAbs (hhll : Word)
  /-- STA, (indirect),Y, 0x91 (R133). -/
  | staIndY (zz : Byte)
  /-- STA, zero page,X, 0x95 (R133). -/
  | staZpX (zz : Byte)
  /-- STA, absolute,Y, 0x99 (R133). -/
  | staAbsY (hhll : Word)
  /-- STA, absolute,X, 0x9D (R133). -/
  | staAbsX (hhll : Word)
  /-- STX, zero page, 0x86 (R134). -/
  | stxZp (zz : Byte)
  /-- STX, absolute, 0x8E (R134). -/
  | stxAbs (hhll : Word)
  /-- STX, zero page,Y, 0x96 (R134). -/
  | stxZpY (zz : Byte)
  /-- STY, zero page, 0x84 (R135). -/
  | styZp (zz : Byte)
  /-- STY, absolute, 0x8C (R135). -/
  | styAbs (hhll : Word)
  /-- STY, zero page,X, 0x94 (R135). -/
  | styZpX (zz : Byte)
  /-- TAX, implied, 0xAA (R136). -/
  | tax
  /-- TAY, implied, 0xA8 (R137). -/
  | tay
  /-- TXA, implied, 0x8A (R138). -/
  | txa
  /-- TYA, implied, 0x98 (R139). -/
  | tya
  /-- TSX, implied, 0xBA (R140). -/
  | tsx
  /-- TXS, implied, 0x9A (R141). -/
  | txs
  /-- JMP, absolute, 0x4C (R145). -/
  | jmpAbs (hhll : Word)
  /-- JMP, indirect, 0x6C (R145). -/
  | jmpInd (ptr : Word)
  /-- BCC, relative, 0x90 (R147). -/
  | bcc (rr : Byte)
  /-- BCS, relative, 0xB0 (R148). -/
  | bcs (rr : Byte)
  /-- BEQ, relative, 0xF0 (R149). -/
  | beq (rr : Byte)
  /-- BMI, relative, 0x30 (R150). -/
  | bmi (rr : Byte)
  /-- BNE, relative, 0xD0 (R151). -/
  | bne (rr : Byte)
  /-- BPL, relative, 0x10 (R152). -/
  | bpl (rr : Byte)
  /-- BVC, relative, 0x50 (R153). -/
  | bvc (rr : Byte)
  /-- BVS, relative, 0x70 (R154). -/
  | bvs (rr : Byte)
  /-- JSR, absolute, 0x20 (R155). -/
  | jsr (hhll : Word)
  /-- RTS, implied, 0x60 (R156). -/
  | rts
  /-- CLC, implied, 0x18 (R160). -/
  | clc
  /-- CLD, implied, 0xD8 (R161). -/
  | cld
  /-- CLI, implied, 0x58 (R162). -/
  | cli
  /-- CLV, implied, 0xB8 (R163). -/
  | clv
  /-- SEC, implied, 0x38 (R164). -/
  | sec
  /-- SED, implied, 0xF8 (R165). -/
  | sed
  /-- SEI, implied, 0x78 (R166). -/
  | sei
  /-- PHA, implied, 0x48 (R167). -/
  | pha
  /-- PHP, implied, 0x08 (R168). -/
  | php
  /-- PLA, implied, 0x68 (R169). -/
  | pla
  /-- PLP, implied, 0x28 (R170). -/
  | plp
  /-- NOP, implied, 0xEA (R171). -/
  | nop
  /-- BRK, implied, 0x00 (R175). -/
  | brk
  /-- RTI, implied, 0x40 (R176). -/
  | rti
deriving DecidableEq, Repr

end Sys2Proof
end

