-- ==== Sys2Proof/WellFormed.lean ====
section
/-! DEFINITION. Which instructions the machine admits. Every value of every operand field is legal (spec/30_encoding.md R75) and the
constructors hold nothing else, so what is left to check is the parameter `ADMITTED_OPCODES` (00_scope.md R8). -/

namespace Sys2Proof

/-- The instructions whose handler DNES names (R77): ADC in all its modes, JMP, BMI, BNE, BPL, BVC, BVS, CLC, CLD, CLI, CLV, BRK. -/
def Instr.docNamed (i : Instr) : Bool :=
  match i with
  | .adcIndX _ | .adcZp _ | .adcImm _ | .adcAbs _ | .adcIndY _ | .adcZpX _ | .adcAbsY _ | .adcAbsX _ | .jmpAbs _
  | .jmpInd _ | .bmi _ | .bne _ | .bpl _ | .bvc _ | .bvs _ | .clc | .cld | .cli | .clv | .brk => true
  | .sbcIndX _ | .sbcZp _ | .sbcImm _ | .sbcAbs _ | .sbcIndY _ | .sbcZpX _ | .sbcAbsY _ | .sbcAbsX _ | .andIndX _
  | .andZp _ | .andImm _ | .andAbs _ | .andIndY _ | .andZpX _ | .andAbsY _ | .andAbsX _ | .oraIndX _ | .oraZp _
  | .oraImm _ | .oraAbs _ | .oraIndY _ | .oraZpX _ | .oraAbsY _ | .oraAbsX _ | .eorIndX _ | .eorZp _ | .eorImm _
  | .eorAbs _ | .eorIndY _ | .eorZpX _ | .eorAbsY _ | .eorAbsX _ | .cmpIndX _ | .cmpZp _ | .cmpImm _ | .cmpAbs _
  | .cmpIndY _ | .cmpZpX _ | .cmpAbsY _ | .cmpAbsX _ | .cpxImm _ | .cpxZp _ | .cpxAbs _ | .cpyImm _ | .cpyZp _
  | .cpyAbs _ | .bitZp _ | .bitAbs _ | .incZp _ | .incAbs _ | .incZpX _ | .incAbsX _ | .decZp _ | .decAbs _
  | .decZpX _ | .decAbsX _ | .inx | .iny | .dex | .dey | .aslZp _ | .aslAcc | .aslAbs _ | .aslZpX _ | .aslAbsX _
  | .lsrZp _ | .lsrAcc | .lsrAbs _ | .lsrZpX _ | .lsrAbsX _ | .rolZp _ | .rolAcc | .rolAbs _ | .rolZpX _ | .rolAbsX _
  | .rorZp _ | .rorAcc | .rorAbs _ | .rorZpX _ | .rorAbsX _ | .ldaIndX _ | .ldaZp _ | .ldaImm _ | .ldaAbs _
  | .ldaIndY _ | .ldaZpX _ | .ldaAbsY _ | .ldaAbsX _ | .ldxImm _ | .ldxZp _ | .ldxAbs _ | .ldxZpY _ | .ldxAbsY _
  | .ldyImm _ | .ldyZp _ | .ldyAbs _ | .ldyZpX _ | .ldyAbsX _ | .staIndX _ | .staZp _ | .staAbs _ | .staIndY _
  | .staZpX _ | .staAbsY _ | .staAbsX _ | .stxZp _ | .stxAbs _ | .stxZpY _ | .styZp _ | .styAbs _ | .styZpX _ | .tax
  | .tay | .txa | .tya | .tsx | .txs | .bcc _ | .bcs _ | .beq _ | .jsr _ | .rts | .sec | .sed | .sei | .pha | .php
  | .pla | .plp | .nop | .rti => false

/-- An instruction of the admitted set (R8, 60_exceptions.md R189). -/
def Instr.wellFormed (admitted : AdmittedOpcodes) (i : Instr) : Bool :=
  match admitted with
  | .official151 => true
  | .docNamed => i.docNamed

end Sys2Proof
end

