-- ==== Sys2Proof/Decode.lean ====
section
/-! DEFINITION. The decoder, total on any bytes (spec/30_encoding.md R65-R76), the encoder, and for each of the 151 rows of R71 a word
written out from the spec and what it decodes to. -/

namespace Sys2Proof

/-! ### Bytes and words -/

/-- `hi ++ lo` (00_scope.md R9): the little-endian u16 whose low byte comes first in memory (R67, 20_memory.md R54). -/
def joinBytes (hi lo : Byte) : Word := hi ++ lo

/-- Bits 15 to 8. -/
def highByte (w : Word) : Byte := w.extractLsb' 8 8

/-- Bits 7 to 0. -/
def lowByte (w : Word) : Byte := w.extractLsb' 0 8

/-- A word taken apart and joined again. -/
@[simp] theorem joinBytes_high_low (w : Word) : joinBytes (highByte w) (lowByte w) = w := by
  apply BitVec.eq_of_toNat_eq
  simp only [joinBytes, highByte, lowByte, BitVec.toNat_append, BitVec.extractLsb'_toNat,
    Nat.shiftLeft_eq, Nat.shiftRight_eq_div_pow]
  rw [← Nat.shiftLeft_eq, ← Nat.shiftLeft_add_eq_or_of_lt (by omega), Nat.shiftLeft_eq]
  have := w.isLt
  omega

/-- The value of two joined bytes. -/
theorem joinBytes_toNat (hi lo : Byte) : (joinBytes hi lo).toNat = hi.toNat * 256 + lo.toNat := by
  simp only [joinBytes, BitVec.toNat_append]
  rw [← Nat.shiftLeft_add_eq_or_of_lt lo.isLt, Nat.shiftLeft_eq]

/-- The high byte as a number. -/
theorem highByte_toNat (w : Word) : (highByte w).toNat = w.toNat / 256 := by
  simp only [highByte, BitVec.extractLsb'_toNat, Nat.shiftRight_eq_div_pow]
  have := w.isLt
  omega

/-- The low byte as a number. -/
theorem lowByte_toNat (w : Word) : (lowByte w).toNat = w.toNat % 256 := by
  simp [lowByte, BitVec.extractLsb'_toNat]

/-- The high byte of two joined bytes. -/
@[simp] theorem highByte_joinBytes (hi lo : Byte) : highByte (joinBytes hi lo) = hi := by
  apply BitVec.eq_of_toNat_eq
  rw [highByte_toNat, joinBytes_toNat]
  have := lo.isLt
  omega

/-- The low byte of two joined bytes. -/
@[simp] theorem lowByte_joinBytes (hi lo : Byte) : lowByte (joinBytes hi lo) = lo := by
  apply BitVec.eq_of_toNat_eq
  rw [lowByte_toNat, joinBytes_toNat]
  have := lo.isLt
  omega

/-! ### Decoding -/

/-- What an opcode byte selects (R66): the instruction, by how many operand bytes its mode takes (R65). -/
inductive Shape where
  /-- No operand byte: implied and accumulator. -/
  | alone (i : Instr)
  /-- One operand byte. -/
  | withByte (make : Byte → Instr)
  /-- Two operand bytes, low byte first. -/
  | withWord (make : Word → Instr)

/-- The instruction's length in bytes (R65, R66). -/
def Shape.length : Shape → Nat
  | .alone _ => 1
  | .withByte _ => 2
  | .withWord _ => 3

/-- Row 0x of the opcode map (R73), by the low nibble; a byte with no row in R71 has none here (R72). -/
def opcodeRow0 : Nat → Option Shape
  | 0x0 => some (.alone .brk)
  | 0x1 => some (.withByte .oraIndX)
  | 0x5 => some (.withByte .oraZp)
  | 0x6 => some (.withByte .aslZp)
  | 0x8 => some (.alone .php)
  | 0x9 => some (.withByte .oraImm)
  | 0xA => some (.alone .aslAcc)
  | 0xD => some (.withWord .oraAbs)
  | 0xE => some (.withWord .aslAbs)
  | _ => none

/-- Row 1x of the opcode map (R73), by the low nibble; a byte with no row in R71 has none here (R72). -/
def opcodeRow1 : Nat → Option Shape
  | 0x0 => some (.withByte .bpl)
  | 0x1 => some (.withByte .oraIndY)
  | 0x5 => some (.withByte .oraZpX)
  | 0x6 => some (.withByte .aslZpX)
  | 0x8 => some (.alone .clc)
  | 0x9 => some (.withWord .oraAbsY)
  | 0xD => some (.withWord .oraAbsX)
  | 0xE => some (.withWord .aslAbsX)
  | _ => none

/-- Row 2x of the opcode map (R73), by the low nibble; a byte with no row in R71 has none here (R72). -/
def opcodeRow2 : Nat → Option Shape
  | 0x0 => some (.withWord .jsr)
  | 0x1 => some (.withByte .andIndX)
  | 0x4 => some (.withByte .bitZp)
  | 0x5 => some (.withByte .andZp)
  | 0x6 => some (.withByte .rolZp)
  | 0x8 => some (.alone .plp)
  | 0x9 => some (.withByte .andImm)
  | 0xA => some (.alone .rolAcc)
  | 0xC => some (.withWord .bitAbs)
  | 0xD => some (.withWord .andAbs)
  | 0xE => some (.withWord .rolAbs)
  | _ => none

/-- Row 3x of the opcode map (R73), by the low nibble; a byte with no row in R71 has none here (R72). -/
def opcodeRow3 : Nat → Option Shape
  | 0x0 => some (.withByte .bmi)
  | 0x1 => some (.withByte .andIndY)
  | 0x5 => some (.withByte .andZpX)
  | 0x6 => some (.withByte .rolZpX)
  | 0x8 => some (.alone .sec)
  | 0x9 => some (.withWord .andAbsY)
  | 0xD => some (.withWord .andAbsX)
  | 0xE => some (.withWord .rolAbsX)
  | _ => none

/-- Row 4x of the opcode map (R73), by the low nibble; a byte with no row in R71 has none here (R72). -/
def opcodeRow4 : Nat → Option Shape
  | 0x0 => some (.alone .rti)
  | 0x1 => some (.withByte .eorIndX)
  | 0x5 => some (.withByte .eorZp)
  | 0x6 => some (.withByte .lsrZp)
  | 0x8 => some (.alone .pha)
  | 0x9 => some (.withByte .eorImm)
  | 0xA => some (.alone .lsrAcc)
  | 0xC => some (.withWord .jmpAbs)
  | 0xD => some (.withWord .eorAbs)
  | 0xE => some (.withWord .lsrAbs)
  | _ => none

/-- Row 5x of the opcode map (R73), by the low nibble; a byte with no row in R71 has none here (R72). -/
def opcodeRow5 : Nat → Option Shape
  | 0x0 => some (.withByte .bvc)
  | 0x1 => some (.withByte .eorIndY)
  | 0x5 => some (.withByte .eorZpX)
  | 0x6 => some (.withByte .lsrZpX)
  | 0x8 => some (.alone .cli)
  | 0x9 => some (.withWord .eorAbsY)
  | 0xD => some (.withWord .eorAbsX)
  | 0xE => some (.withWord .lsrAbsX)
  | _ => none

/-- Row 6x of the opcode map (R73), by the low nibble; a byte with no row in R71 has none here (R72). -/
def opcodeRow6 : Nat → Option Shape
  | 0x0 => some (.alone .rts)
  | 0x1 => some (.withByte .adcIndX)
  | 0x5 => some (.withByte .adcZp)
  | 0x6 => some (.withByte .rorZp)
  | 0x8 => some (.alone .pla)
  | 0x9 => some (.withByte .adcImm)
  | 0xA => some (.alone .rorAcc)
  | 0xC => some (.withWord .jmpInd)
  | 0xD => some (.withWord .adcAbs)
  | 0xE => some (.withWord .rorAbs)
  | _ => none

/-- Row 7x of the opcode map (R73), by the low nibble; a byte with no row in R71 has none here (R72). -/
def opcodeRow7 : Nat → Option Shape
  | 0x0 => some (.withByte .bvs)
  | 0x1 => some (.withByte .adcIndY)
  | 0x5 => some (.withByte .adcZpX)
  | 0x6 => some (.withByte .rorZpX)
  | 0x8 => some (.alone .sei)
  | 0x9 => some (.withWord .adcAbsY)
  | 0xD => some (.withWord .adcAbsX)
  | 0xE => some (.withWord .rorAbsX)
  | _ => none

/-- Row 8x of the opcode map (R73), by the low nibble; a byte with no row in R71 has none here (R72). -/
def opcodeRow8 : Nat → Option Shape
  | 0x1 => some (.withByte .staIndX)
  | 0x4 => some (.withByte .styZp)
  | 0x5 => some (.withByte .staZp)
  | 0x6 => some (.withByte .stxZp)
  | 0x8 => some (.alone .dey)
  | 0xA => some (.alone .txa)
  | 0xC => some (.withWord .styAbs)
  | 0xD => some (.withWord .staAbs)
  | 0xE => some (.withWord .stxAbs)
  | _ => none

/-- Row 9x of the opcode map (R73), by the low nibble; a byte with no row in R71 has none here (R72). -/
def opcodeRow9 : Nat → Option Shape
  | 0x0 => some (.withByte .bcc)
  | 0x1 => some (.withByte .staIndY)
  | 0x4 => some (.withByte .styZpX)
  | 0x5 => some (.withByte .staZpX)
  | 0x6 => some (.withByte .stxZpY)
  | 0x8 => some (.alone .tya)
  | 0x9 => some (.withWord .staAbsY)
  | 0xA => some (.alone .txs)
  | 0xD => some (.withWord .staAbsX)
  | _ => none

/-- Row Ax of the opcode map (R73), by the low nibble; a byte with no row in R71 has none here (R72). -/
def opcodeRowA : Nat → Option Shape
  | 0x0 => some (.withByte .ldyImm)
  | 0x1 => some (.withByte .ldaIndX)
  | 0x2 => some (.withByte .ldxImm)
  | 0x4 => some (.withByte .ldyZp)
  | 0x5 => some (.withByte .ldaZp)
  | 0x6 => some (.withByte .ldxZp)
  | 0x8 => some (.alone .tay)
  | 0x9 => some (.withByte .ldaImm)
  | 0xA => some (.alone .tax)
  | 0xC => some (.withWord .ldyAbs)
  | 0xD => some (.withWord .ldaAbs)
  | 0xE => some (.withWord .ldxAbs)
  | _ => none

/-- Row Bx of the opcode map (R73), by the low nibble; a byte with no row in R71 has none here (R72). -/
def opcodeRowB : Nat → Option Shape
  | 0x0 => some (.withByte .bcs)
  | 0x1 => some (.withByte .ldaIndY)
  | 0x4 => some (.withByte .ldyZpX)
  | 0x5 => some (.withByte .ldaZpX)
  | 0x6 => some (.withByte .ldxZpY)
  | 0x8 => some (.alone .clv)
  | 0x9 => some (.withWord .ldaAbsY)
  | 0xA => some (.alone .tsx)
  | 0xC => some (.withWord .ldyAbsX)
  | 0xD => some (.withWord .ldaAbsX)
  | 0xE => some (.withWord .ldxAbsY)
  | _ => none

/-- Row Cx of the opcode map (R73), by the low nibble; a byte with no row in R71 has none here (R72). -/
def opcodeRowC : Nat → Option Shape
  | 0x0 => some (.withByte .cpyImm)
  | 0x1 => some (.withByte .cmpIndX)
  | 0x4 => some (.withByte .cpyZp)
  | 0x5 => some (.withByte .cmpZp)
  | 0x6 => some (.withByte .decZp)
  | 0x8 => some (.alone .iny)
  | 0x9 => some (.withByte .cmpImm)
  | 0xA => some (.alone .dex)
  | 0xC => some (.withWord .cpyAbs)
  | 0xD => some (.withWord .cmpAbs)
  | 0xE => some (.withWord .decAbs)
  | _ => none

/-- Row Dx of the opcode map (R73), by the low nibble; a byte with no row in R71 has none here (R72). -/
def opcodeRowD : Nat → Option Shape
  | 0x0 => some (.withByte .bne)
  | 0x1 => some (.withByte .cmpIndY)
  | 0x5 => some (.withByte .cmpZpX)
  | 0x6 => some (.withByte .decZpX)
  | 0x8 => some (.alone .cld)
  | 0x9 => some (.withWord .cmpAbsY)
  | 0xD => some (.withWord .cmpAbsX)
  | 0xE => some (.withWord .decAbsX)
  | _ => none

/-- Row Ex of the opcode map (R73), by the low nibble; a byte with no row in R71 has none here (R72). -/
def opcodeRowE : Nat → Option Shape
  | 0x0 => some (.withByte .cpxImm)
  | 0x1 => some (.withByte .sbcIndX)
  | 0x4 => some (.withByte .cpxZp)
  | 0x5 => some (.withByte .sbcZp)
  | 0x6 => some (.withByte .incZp)
  | 0x8 => some (.alone .inx)
  | 0x9 => some (.withByte .sbcImm)
  | 0xA => some (.alone .nop)
  | 0xC => some (.withWord .cpxAbs)
  | 0xD => some (.withWord .sbcAbs)
  | 0xE => some (.withWord .incAbs)
  | _ => none

/-- Row Fx of the opcode map (R73), by the low nibble; a byte with no row in R71 has none here (R72). -/
def opcodeRowF : Nat → Option Shape
  | 0x0 => some (.withByte .beq)
  | 0x1 => some (.withByte .sbcIndY)
  | 0x5 => some (.withByte .sbcZpX)
  | 0x6 => some (.withByte .incZpX)
  | 0x8 => some (.alone .sed)
  | 0x9 => some (.withWord .sbcAbsY)
  | 0xD => some (.withWord .sbcAbsX)
  | 0xE => some (.withWord .incAbsX)
  | _ => none

/-- The opcode map (R71, R73), by the high nibble and the low nibble of the opcode byte. -/
def opcodeMap (opcode : Byte) : Option Shape :=
  match opcode.toNat / 16 with
  | 0x0 => opcodeRow0 (opcode.toNat % 16)
  | 0x1 => opcodeRow1 (opcode.toNat % 16)
  | 0x2 => opcodeRow2 (opcode.toNat % 16)
  | 0x3 => opcodeRow3 (opcode.toNat % 16)
  | 0x4 => opcodeRow4 (opcode.toNat % 16)
  | 0x5 => opcodeRow5 (opcode.toNat % 16)
  | 0x6 => opcodeRow6 (opcode.toNat % 16)
  | 0x7 => opcodeRow7 (opcode.toNat % 16)
  | 0x8 => opcodeRow8 (opcode.toNat % 16)
  | 0x9 => opcodeRow9 (opcode.toNat % 16)
  | 0xA => opcodeRowA (opcode.toNat % 16)
  | 0xB => opcodeRowB (opcode.toNat % 16)
  | 0xC => opcodeRowC (opcode.toNat % 16)
  | 0xD => opcodeRowD (opcode.toNat % 16)
  | 0xE => opcodeRowE (opcode.toNat % 16)
  | 0xF => opcodeRowF (opcode.toNat % 16)
  | _ => none

/-- The 20 opcode bytes of the document-named rows (R77). -/
def docNamedOpcodes : List Byte :=
  [0x69, 0x65, 0x75, 0x6D, 0x7D, 0x79, 0x61, 0x71, 0x4C, 0x6C, 0x30, 0xD0, 0x10, 0x50, 0x70, 0x18, 0xD8, 0x58, 0xB8, 0x00]

/-- Whether `ADMITTED_OPCODES` lets this opcode byte have a row (R8, 60_exceptions.md R189). -/
def admits (admitted : AdmittedOpcodes) (opcode : Byte) : Bool :=
  match admitted with
  | .official151 => true
  | .docNamed => docNamedOpcodes.contains opcode

/-- The row an opcode byte selects, if any (R189): the opcode alone decides (R66). -/
def lookupOpcode (admitted : AdmittedOpcodes) (opcode : Byte) : Option Shape :=
  if admits admitted opcode then opcodeMap opcode else none

/-- Why bytes are no instruction. -/
inductive DecodeError where
  /-- No byte at all. -/
  | noBytes
  /-- The opcode byte has no row (R72, R77). -/
  | unmapped (opcode : Byte)
  /-- Fewer operand bytes than the opcode's mode takes (R65). -/
  | truncated (opcode : Byte)
deriving DecidableEq, Repr

/-- What the decoder answers: the instruction and the bytes after it, or why there is none. -/
inductive DecodeResult where
  /-- The first instruction, and the bytes that follow it. -/
  | ok (i : Instr) (rest : List Byte)
  /-- No instruction. -/
  | error (e : DecodeError)
deriving DecidableEq, Repr

/-- The instruction at the head of a list of bytes (R65-R67, R76). -/
def decode (admitted : AdmittedOpcodes) (bytes : List Byte) : DecodeResult :=
  match bytes with
  | [] => .error .noBytes
  | opcode :: rest =>
    match lookupOpcode admitted opcode with
    | none => .error (.unmapped opcode)
    | some (.alone i) => .ok i rest
    | some (.withByte make) =>
      match rest with
      | b :: rest => .ok (make b) rest
      | [] => .error (.truncated opcode)
    | some (.withWord make) =>
      match rest with
      | lo :: hi :: rest => .ok (make (joinBytes hi lo)) rest
      | _ => .error (.truncated opcode)

/-- The instruction read from `w`, whose bits 7 to 0 are the opcode byte and bits 15 to 8 and 23 to 16 the operand bytes; bits from
`nbits` up count as 0. -/
def decodeTableWord (nbits w : Nat) : Option Instr :=
  let v := w % 2 ^ nbits
  match decode .official151 [BitVec.ofNat 8 v, BitVec.ofNat 8 (v / 2 ^ 8), BitVec.ofNat 8 (v / 2 ^ 16)] with
  | .ok i _ => some i
  | .error _ => none

/-! ### Encoding -/

/-- The bytes of an instruction, written from R71 and R65: the opcode byte, then the operand bytes, low byte first. -/
def encode (i : Instr) : List Byte :=
  match i with
  | .adcIndX zz => [0x61, zz]
  | .adcZp zz => [0x65, zz]
  | .adcImm nn => [0x69, nn]
  | .adcAbs hhll => [0x6D, lowByte hhll, highByte hhll]
  | .adcIndY zz => [0x71, zz]
  | .adcZpX zz => [0x75, zz]
  | .adcAbsY hhll => [0x79, lowByte hhll, highByte hhll]
  | .adcAbsX hhll => [0x7D, lowByte hhll, highByte hhll]
  | .sbcIndX zz => [0xE1, zz]
  | .sbcZp zz => [0xE5, zz]
  | .sbcImm nn => [0xE9, nn]
  | .sbcAbs hhll => [0xED, lowByte hhll, highByte hhll]
  | .sbcIndY zz => [0xF1, zz]
  | .sbcZpX zz => [0xF5, zz]
  | .sbcAbsY hhll => [0xF9, lowByte hhll, highByte hhll]
  | .sbcAbsX hhll => [0xFD, lowByte hhll, highByte hhll]
  | .andIndX zz => [0x21, zz]
  | .andZp zz => [0x25, zz]
  | .andImm nn => [0x29, nn]
  | .andAbs hhll => [0x2D, lowByte hhll, highByte hhll]
  | .andIndY zz => [0x31, zz]
  | .andZpX zz => [0x35, zz]
  | .andAbsY hhll => [0x39, lowByte hhll, highByte hhll]
  | .andAbsX hhll => [0x3D, lowByte hhll, highByte hhll]
  | .oraIndX zz => [0x01, zz]
  | .oraZp zz => [0x05, zz]
  | .oraImm nn => [0x09, nn]
  | .oraAbs hhll => [0x0D, lowByte hhll, highByte hhll]
  | .oraIndY zz => [0x11, zz]
  | .oraZpX zz => [0x15, zz]
  | .oraAbsY hhll => [0x19, lowByte hhll, highByte hhll]
  | .oraAbsX hhll => [0x1D, lowByte hhll, highByte hhll]
  | .eorIndX zz => [0x41, zz]
  | .eorZp zz => [0x45, zz]
  | .eorImm nn => [0x49, nn]
  | .eorAbs hhll => [0x4D, lowByte hhll, highByte hhll]
  | .eorIndY zz => [0x51, zz]
  | .eorZpX zz => [0x55, zz]
  | .eorAbsY hhll => [0x59, lowByte hhll, highByte hhll]
  | .eorAbsX hhll => [0x5D, lowByte hhll, highByte hhll]
  | .cmpIndX zz => [0xC1, zz]
  | .cmpZp zz => [0xC5, zz]
  | .cmpImm nn => [0xC9, nn]
  | .cmpAbs hhll => [0xCD, lowByte hhll, highByte hhll]
  | .cmpIndY zz => [0xD1, zz]
  | .cmpZpX zz => [0xD5, zz]
  | .cmpAbsY hhll => [0xD9, lowByte hhll, highByte hhll]
  | .cmpAbsX hhll => [0xDD, lowByte hhll, highByte hhll]
  | .cpxImm nn => [0xE0, nn]
  | .cpxZp zz => [0xE4, zz]
  | .cpxAbs hhll => [0xEC, lowByte hhll, highByte hhll]
  | .cpyImm nn => [0xC0, nn]
  | .cpyZp zz => [0xC4, zz]
  | .cpyAbs hhll => [0xCC, lowByte hhll, highByte hhll]
  | .bitZp zz => [0x24, zz]
  | .bitAbs hhll => [0x2C, lowByte hhll, highByte hhll]
  | .incZp zz => [0xE6, zz]
  | .incAbs hhll => [0xEE, lowByte hhll, highByte hhll]
  | .incZpX zz => [0xF6, zz]
  | .incAbsX hhll => [0xFE, lowByte hhll, highByte hhll]
  | .decZp zz => [0xC6, zz]
  | .decAbs hhll => [0xCE, lowByte hhll, highByte hhll]
  | .decZpX zz => [0xD6, zz]
  | .decAbsX hhll => [0xDE, lowByte hhll, highByte hhll]
  | .inx => [0xE8]
  | .iny => [0xC8]
  | .dex => [0xCA]
  | .dey => [0x88]
  | .aslZp zz => [0x06, zz]
  | .aslAcc => [0x0A]
  | .aslAbs hhll => [0x0E, lowByte hhll, highByte hhll]
  | .aslZpX zz => [0x16, zz]
  | .aslAbsX hhll => [0x1E, lowByte hhll, highByte hhll]
  | .lsrZp zz => [0x46, zz]
  | .lsrAcc => [0x4A]
  | .lsrAbs hhll => [0x4E, lowByte hhll, highByte hhll]
  | .lsrZpX zz => [0x56, zz]
  | .lsrAbsX hhll => [0x5E, lowByte hhll, highByte hhll]
  | .rolZp zz => [0x26, zz]
  | .rolAcc => [0x2A]
  | .rolAbs hhll => [0x2E, lowByte hhll, highByte hhll]
  | .rolZpX zz => [0x36, zz]
  | .rolAbsX hhll => [0x3E, lowByte hhll, highByte hhll]
  | .rorZp zz => [0x66, zz]
  | .rorAcc => [0x6A]
  | .rorAbs hhll => [0x6E, lowByte hhll, highByte hhll]
  | .rorZpX zz => [0x76, zz]
  | .rorAbsX hhll => [0x7E, lowByte hhll, highByte hhll]
  | .ldaIndX zz => [0xA1, zz]
  | .ldaZp zz => [0xA5, zz]
  | .ldaImm nn => [0xA9, nn]
  | .ldaAbs hhll => [0xAD, lowByte hhll, highByte hhll]
  | .ldaIndY zz => [0xB1, zz]
  | .ldaZpX zz => [0xB5, zz]
  | .ldaAbsY hhll => [0xB9, lowByte hhll, highByte hhll]
  | .ldaAbsX hhll => [0xBD, lowByte hhll, highByte hhll]
  | .ldxImm nn => [0xA2, nn]
  | .ldxZp zz => [0xA6, zz]
  | .ldxAbs hhll => [0xAE, lowByte hhll, highByte hhll]
  | .ldxZpY zz => [0xB6, zz]
  | .ldxAbsY hhll => [0xBE, lowByte hhll, highByte hhll]
  | .ldyImm nn => [0xA0, nn]
  | .ldyZp zz => [0xA4, zz]
  | .ldyAbs hhll => [0xAC, lowByte hhll, highByte hhll]
  | .ldyZpX zz => [0xB4, zz]
  | .ldyAbsX hhll => [0xBC, lowByte hhll, highByte hhll]
  | .staIndX zz => [0x81, zz]
  | .staZp zz => [0x85, zz]
  | .staAbs hhll => [0x8D, lowByte hhll, highByte hhll]
  | .staIndY zz => [0x91, zz]
  | .staZpX zz => [0x95, zz]
  | .staAbsY hhll => [0x99, lowByte hhll, highByte hhll]
  | .staAbsX hhll => [0x9D, lowByte hhll, highByte hhll]
  | .stxZp zz => [0x86, zz]
  | .stxAbs hhll => [0x8E, lowByte hhll, highByte hhll]
  | .stxZpY zz => [0x96, zz]
  | .styZp zz => [0x84, zz]
  | .styAbs hhll => [0x8C, lowByte hhll, highByte hhll]
  | .styZpX zz => [0x94, zz]
  | .tax => [0xAA]
  | .tay => [0xA8]
  | .txa => [0x8A]
  | .tya => [0x98]
  | .tsx => [0xBA]
  | .txs => [0x9A]
  | .jmpAbs hhll => [0x4C, lowByte hhll, highByte hhll]
  | .jmpInd ptr => [0x6C, lowByte ptr, highByte ptr]
  | .bcc rr => [0x90, rr]
  | .bcs rr => [0xB0, rr]
  | .beq rr => [0xF0, rr]
  | .bmi rr => [0x30, rr]
  | .bne rr => [0xD0, rr]
  | .bpl rr => [0x10, rr]
  | .bvc rr => [0x50, rr]
  | .bvs rr => [0x70, rr]
  | .jsr hhll => [0x20, lowByte hhll, highByte hhll]
  | .rts => [0x60]
  | .clc => [0x18]
  | .cld => [0xD8]
  | .cli => [0x58]
  | .clv => [0xB8]
  | .sec => [0x38]
  | .sed => [0xF8]
  | .sei => [0x78]
  | .pha => [0x48]
  | .php => [0x08]
  | .pla => [0x68]
  | .plp => [0x28]
  | .nop => [0xEA]
  | .brk => [0x00]
  | .rti => [0x40]

/-! ### Each row of R71, by a word written out from the spec -/

/-- Row 0x of R73: 00 BRK, 01 ORA, 05 ORA, 06 ASL, 08 PHP, 09 ORA, 0A ASL, 0D ORA, 0E ASL. -/
theorem decode_row0 :
    [[0x00], [0x01, 0x5A], [0x05, 0x5A], [0x06, 0x5A], [0x08], [0x09, 0x5A], [0x0A], [0x0D, 0x34, 0x12],
      [0x0E, 0x34, 0x12]].map (decode .official151) =
    [.ok .brk [], .ok (.oraIndX 0x5A) [], .ok (.oraZp 0x5A) [], .ok (.aslZp 0x5A) [], .ok .php [],
      .ok (.oraImm 0x5A) [], .ok .aslAcc [], .ok (.oraAbs 0x1234) [], .ok (.aslAbs 0x1234) []] := by
  decide

/-- Row 1x of R73: 10 BPL, 11 ORA, 15 ORA, 16 ASL, 18 CLC, 19 ORA, 1D ORA, 1E ASL. -/
theorem decode_row1 :
    [[0x10, 0x5A], [0x11, 0x5A], [0x15, 0x5A], [0x16, 0x5A], [0x18], [0x19, 0x34, 0x12], [0x1D, 0x34, 0x12],
      [0x1E, 0x34, 0x12]].map (decode .official151) =
    [.ok (.bpl 0x5A) [], .ok (.oraIndY 0x5A) [], .ok (.oraZpX 0x5A) [], .ok (.aslZpX 0x5A) [], .ok .clc [],
      .ok (.oraAbsY 0x1234) [], .ok (.oraAbsX 0x1234) [], .ok (.aslAbsX 0x1234) []] := by
  decide

/-- Row 2x of R73: 20 JSR, 21 AND, 24 BIT, 25 AND, 26 ROL, 28 PLP, 29 AND, 2A ROL, 2C BIT, 2D AND, 2E ROL. -/
theorem decode_row2 :
    [[0x20, 0x34, 0x12], [0x21, 0x5A], [0x24, 0x5A], [0x25, 0x5A], [0x26, 0x5A], [0x28], [0x29, 0x5A],
      [0x2A], [0x2C, 0x34, 0x12], [0x2D, 0x34, 0x12], [0x2E, 0x34, 0x12]].map (decode .official151) =
    [.ok (.jsr 0x1234) [], .ok (.andIndX 0x5A) [], .ok (.bitZp 0x5A) [], .ok (.andZp 0x5A) [],
      .ok (.rolZp 0x5A) [], .ok .plp [], .ok (.andImm 0x5A) [], .ok .rolAcc [], .ok (.bitAbs 0x1234) [],
      .ok (.andAbs 0x1234) [], .ok (.rolAbs 0x1234) []] := by
  decide

/-- Row 3x of R73: 30 BMI, 31 AND, 35 AND, 36 ROL, 38 SEC, 39 AND, 3D AND, 3E ROL. -/
theorem decode_row3 :
    [[0x30, 0x5A], [0x31, 0x5A], [0x35, 0x5A], [0x36, 0x5A], [0x38], [0x39, 0x34, 0x12], [0x3D, 0x34, 0x12],
      [0x3E, 0x34, 0x12]].map (decode .official151) =
    [.ok (.bmi 0x5A) [], .ok (.andIndY 0x5A) [], .ok (.andZpX 0x5A) [], .ok (.rolZpX 0x5A) [], .ok .sec [],
      .ok (.andAbsY 0x1234) [], .ok (.andAbsX 0x1234) [], .ok (.rolAbsX 0x1234) []] := by
  decide

/-- Row 4x of R73: 40 RTI, 41 EOR, 45 EOR, 46 LSR, 48 PHA, 49 EOR, 4A LSR, 4C JMP, 4D EOR, 4E LSR. -/
theorem decode_row4 :
    [[0x40], [0x41, 0x5A], [0x45, 0x5A], [0x46, 0x5A], [0x48], [0x49, 0x5A], [0x4A], [0x4C, 0x34, 0x12],
      [0x4D, 0x34, 0x12], [0x4E, 0x34, 0x12]].map (decode .official151) =
    [.ok .rti [], .ok (.eorIndX 0x5A) [], .ok (.eorZp 0x5A) [], .ok (.lsrZp 0x5A) [], .ok .pha [],
      .ok (.eorImm 0x5A) [], .ok .lsrAcc [], .ok (.jmpAbs 0x1234) [], .ok (.eorAbs 0x1234) [],
      .ok (.lsrAbs 0x1234) []] := by
  decide

/-- Row 5x of R73: 50 BVC, 51 EOR, 55 EOR, 56 LSR, 58 CLI, 59 EOR, 5D EOR, 5E LSR. -/
theorem decode_row5 :
    [[0x50, 0x5A], [0x51, 0x5A], [0x55, 0x5A], [0x56, 0x5A], [0x58], [0x59, 0x34, 0x12], [0x5D, 0x34, 0x12],
      [0x5E, 0x34, 0x12]].map (decode .official151) =
    [.ok (.bvc 0x5A) [], .ok (.eorIndY 0x5A) [], .ok (.eorZpX 0x5A) [], .ok (.lsrZpX 0x5A) [], .ok .cli [],
      .ok (.eorAbsY 0x1234) [], .ok (.eorAbsX 0x1234) [], .ok (.lsrAbsX 0x1234) []] := by
  decide

/-- Row 6x of R73: 60 RTS, 61 ADC, 65 ADC, 66 ROR, 68 PLA, 69 ADC, 6A ROR, 6C JMP, 6D ADC, 6E ROR. -/
theorem decode_row6 :
    [[0x60], [0x61, 0x5A], [0x65, 0x5A], [0x66, 0x5A], [0x68], [0x69, 0x5A], [0x6A], [0x6C, 0x34, 0x12],
      [0x6D, 0x34, 0x12], [0x6E, 0x34, 0x12]].map (decode .official151) =
    [.ok .rts [], .ok (.adcIndX 0x5A) [], .ok (.adcZp 0x5A) [], .ok (.rorZp 0x5A) [], .ok .pla [],
      .ok (.adcImm 0x5A) [], .ok .rorAcc [], .ok (.jmpInd 0x1234) [], .ok (.adcAbs 0x1234) [],
      .ok (.rorAbs 0x1234) []] := by
  decide

/-- Row 7x of R73: 70 BVS, 71 ADC, 75 ADC, 76 ROR, 78 SEI, 79 ADC, 7D ADC, 7E ROR. -/
theorem decode_row7 :
    [[0x70, 0x5A], [0x71, 0x5A], [0x75, 0x5A], [0x76, 0x5A], [0x78], [0x79, 0x34, 0x12], [0x7D, 0x34, 0x12],
      [0x7E, 0x34, 0x12]].map (decode .official151) =
    [.ok (.bvs 0x5A) [], .ok (.adcIndY 0x5A) [], .ok (.adcZpX 0x5A) [], .ok (.rorZpX 0x5A) [], .ok .sei [],
      .ok (.adcAbsY 0x1234) [], .ok (.adcAbsX 0x1234) [], .ok (.rorAbsX 0x1234) []] := by
  decide

/-- Row 8x of R73: 81 STA, 84 STY, 85 STA, 86 STX, 88 DEY, 8A TXA, 8C STY, 8D STA, 8E STX. -/
theorem decode_row8 :
    [[0x81, 0x5A], [0x84, 0x5A], [0x85, 0x5A], [0x86, 0x5A], [0x88], [0x8A], [0x8C, 0x34, 0x12],
      [0x8D, 0x34, 0x12], [0x8E, 0x34, 0x12]].map (decode .official151) =
    [.ok (.staIndX 0x5A) [], .ok (.styZp 0x5A) [], .ok (.staZp 0x5A) [], .ok (.stxZp 0x5A) [], .ok .dey [],
      .ok .txa [], .ok (.styAbs 0x1234) [], .ok (.staAbs 0x1234) [], .ok (.stxAbs 0x1234) []] := by
  decide

/-- Row 9x of R73: 90 BCC, 91 STA, 94 STY, 95 STA, 96 STX, 98 TYA, 99 STA, 9A TXS, 9D STA. -/
theorem decode_row9 :
    [[0x90, 0x5A], [0x91, 0x5A], [0x94, 0x5A], [0x95, 0x5A], [0x96, 0x5A], [0x98], [0x99, 0x34, 0x12],
      [0x9A], [0x9D, 0x34, 0x12]].map (decode .official151) =
    [.ok (.bcc 0x5A) [], .ok (.staIndY 0x5A) [], .ok (.styZpX 0x5A) [], .ok (.staZpX 0x5A) [],
      .ok (.stxZpY 0x5A) [], .ok .tya [], .ok (.staAbsY 0x1234) [], .ok .txs [], .ok (.staAbsX 0x1234) []] := by
  decide

/-- Row Ax of R73: A0 LDY, A1 LDA, A2 LDX, A4 LDY, A5 LDA, A6 LDX, A8 TAY, A9 LDA, AA TAX, AC LDY, AD LDA, AE LDX. -/
theorem decode_rowA :
    [[0xA0, 0x5A], [0xA1, 0x5A], [0xA2, 0x5A], [0xA4, 0x5A], [0xA5, 0x5A], [0xA6, 0x5A], [0xA8],
      [0xA9, 0x5A], [0xAA], [0xAC, 0x34, 0x12], [0xAD, 0x34, 0x12], [0xAE, 0x34, 0x12]].map (decode .official151) =
    [.ok (.ldyImm 0x5A) [], .ok (.ldaIndX 0x5A) [], .ok (.ldxImm 0x5A) [], .ok (.ldyZp 0x5A) [],
      .ok (.ldaZp 0x5A) [], .ok (.ldxZp 0x5A) [], .ok .tay [], .ok (.ldaImm 0x5A) [], .ok .tax [],
      .ok (.ldyAbs 0x1234) [], .ok (.ldaAbs 0x1234) [], .ok (.ldxAbs 0x1234) []] := by
  decide

/-- Row Bx of R73: B0 BCS, B1 LDA, B4 LDY, B5 LDA, B6 LDX, B8 CLV, B9 LDA, BA TSX, BC LDY, BD LDA, BE LDX. -/
theorem decode_rowB :
    [[0xB0, 0x5A], [0xB1, 0x5A], [0xB4, 0x5A], [0xB5, 0x5A], [0xB6, 0x5A], [0xB8], [0xB9, 0x34, 0x12],
      [0xBA], [0xBC, 0x34, 0x12], [0xBD, 0x34, 0x12], [0xBE, 0x34, 0x12]].map (decode .official151) =
    [.ok (.bcs 0x5A) [], .ok (.ldaIndY 0x5A) [], .ok (.ldyZpX 0x5A) [], .ok (.ldaZpX 0x5A) [],
      .ok (.ldxZpY 0x5A) [], .ok .clv [], .ok (.ldaAbsY 0x1234) [], .ok .tsx [], .ok (.ldyAbsX 0x1234) [],
      .ok (.ldaAbsX 0x1234) [], .ok (.ldxAbsY 0x1234) []] := by
  decide

/-- Row Cx of R73: C0 CPY, C1 CMP, C4 CPY, C5 CMP, C6 DEC, C8 INY, C9 CMP, CA DEX, CC CPY, CD CMP, CE DEC. -/
theorem decode_rowC :
    [[0xC0, 0x5A], [0xC1, 0x5A], [0xC4, 0x5A], [0xC5, 0x5A], [0xC6, 0x5A], [0xC8], [0xC9, 0x5A], [0xCA],
      [0xCC, 0x34, 0x12], [0xCD, 0x34, 0x12], [0xCE, 0x34, 0x12]].map (decode .official151) =
    [.ok (.cpyImm 0x5A) [], .ok (.cmpIndX 0x5A) [], .ok (.cpyZp 0x5A) [], .ok (.cmpZp 0x5A) [],
      .ok (.decZp 0x5A) [], .ok .iny [], .ok (.cmpImm 0x5A) [], .ok .dex [], .ok (.cpyAbs 0x1234) [],
      .ok (.cmpAbs 0x1234) [], .ok (.decAbs 0x1234) []] := by
  decide

/-- Row Dx of R73: D0 BNE, D1 CMP, D5 CMP, D6 DEC, D8 CLD, D9 CMP, DD CMP, DE DEC. -/
theorem decode_rowD :
    [[0xD0, 0x5A], [0xD1, 0x5A], [0xD5, 0x5A], [0xD6, 0x5A], [0xD8], [0xD9, 0x34, 0x12], [0xDD, 0x34, 0x12],
      [0xDE, 0x34, 0x12]].map (decode .official151) =
    [.ok (.bne 0x5A) [], .ok (.cmpIndY 0x5A) [], .ok (.cmpZpX 0x5A) [], .ok (.decZpX 0x5A) [], .ok .cld [],
      .ok (.cmpAbsY 0x1234) [], .ok (.cmpAbsX 0x1234) [], .ok (.decAbsX 0x1234) []] := by
  decide

/-- Row Ex of R73: E0 CPX, E1 SBC, E4 CPX, E5 SBC, E6 INC, E8 INX, E9 SBC, EA NOP, EC CPX, ED SBC, EE INC. -/
theorem decode_rowE :
    [[0xE0, 0x5A], [0xE1, 0x5A], [0xE4, 0x5A], [0xE5, 0x5A], [0xE6, 0x5A], [0xE8], [0xE9, 0x5A], [0xEA],
      [0xEC, 0x34, 0x12], [0xED, 0x34, 0x12], [0xEE, 0x34, 0x12]].map (decode .official151) =
    [.ok (.cpxImm 0x5A) [], .ok (.sbcIndX 0x5A) [], .ok (.cpxZp 0x5A) [], .ok (.sbcZp 0x5A) [],
      .ok (.incZp 0x5A) [], .ok .inx [], .ok (.sbcImm 0x5A) [], .ok .nop [], .ok (.cpxAbs 0x1234) [],
      .ok (.sbcAbs 0x1234) [], .ok (.incAbs 0x1234) []] := by
  decide

/-- Row Fx of R73: F0 BEQ, F1 SBC, F5 SBC, F6 INC, F8 SED, F9 SBC, FD SBC, FE INC. -/
theorem decode_rowF :
    [[0xF0, 0x5A], [0xF1, 0x5A], [0xF5, 0x5A], [0xF6, 0x5A], [0xF8], [0xF9, 0x34, 0x12], [0xFD, 0x34, 0x12],
      [0xFE, 0x34, 0x12]].map (decode .official151) =
    [.ok (.beq 0x5A) [], .ok (.sbcIndY 0x5A) [], .ok (.sbcZpX 0x5A) [], .ok (.incZpX 0x5A) [], .ok .sed [],
      .ok (.sbcAbsY 0x1234) [], .ok (.sbcAbsX 0x1234) [], .ok (.incAbsX 0x1234) []] := by
  decide

end Sys2Proof
end

