-- ==== Sys2Proof/Machine/State.lean ====
section
/-! DEFINITION. The machine's state as plain data (spec/10_state.md R20, 20_memory.md R45), the reasons a step can stop, the
state of a newly created core and the state after power-on. -/

namespace Sys2Proof.Machine

/-- Memory: (address, byte) pairs in one canonical form (`Memory.wf` in Machine/Ops.lean): addresses strictly rising and
below 2^16, no byte equal to what an unlisted address reads as. -/
abbrev Memory := List Host.Cell

/-- The six stored status flags (R26). B and bit 5 have no storage (R27): `statusByte` builds them. -/
structure Flags where
  /-- Negative, bit 7 of the status byte. -/
  n : Bool
  /-- Overflow, bit 6. -/
  v : Bool
  /-- Decimal, bit 3: stored and pushed, no effect on arithmetic (R37, D2). -/
  d : Bool
  /-- InterruptDisable, bit 2: masks IRQ (60_exceptions.md R182). -/
  i : Bool
  /-- Zero, bit 1. -/
  z : Bool
  /-- Carry, bit 0. -/
  c : Bool
deriving DecidableEq, Repr

/-- Every piece of state of R20, and with it the two things R35 makes arguments of the step: the memory image (R45) and the
parameters (R8), kept here because a step is a function of one state (log entries 1 and 4). -/
structure State where
  /-- Program counter (R21). -/
  pc : Word
  /-- Accumulator (R22). -/
  a : Byte
  /-- Index register X (R23). -/
  x : Byte
  /-- Index register Y (R24). -/
  y : Byte
  /-- Stack pointer: the low byte of the next free stack location in page 0x01 (R25). -/
  sp : Byte
  /-- The stored status flags (R26). -/
  flags : Flags
  /-- Cycle counter, an unbounded count (R30, D17). -/
  cycles : Nat
  /-- `reset_req`: a latched reset request (R31). -/
  resetReq : Bool
  /-- `nmi_req`: a latched NMI request (R31). -/
  nmiReq : Bool
  /-- `irq_line`: the level of the IRQ line, written by the host alone (R31, D5). -/
  irqLine : Bool
  /-- `page_crossed`: written by every operand resolution (R32). -/
  pageCrossed : Bool
  /-- `powered`: powerOn() has run (R34). -/
  powered : Bool
  /-- The parameters of 00_scope.md R8; no rule writes them. -/
  params : Params
  /-- The memory image (R45). -/
  mem : Memory
deriving DecidableEq, Repr

/-- Why a step ends in an error the core reports to its host (60_exceptions.md R191). -/
inductive Fault where
  /-- Raised by `fetchDecodeExecute` (Machine/Driver.lean) when the fetched byte has no row in the admitted table: the opcode
  byte, its address, and the state the core is left in, on which the host may call step again (R191, D16). Safe: a run that
  faults proves nothing further. -/
  | unmappedOpcode (opcode : Byte) (addr : Word) (after : State)
deriving DecidableEq, Repr

/-- Why the model gives no meaning to a call. -/
inductive Refusal where
  /-- Answered by an arm of `exec` whose instruction has no meaning yet: no arm answers it in this model. Safe. -/
  | notModelled (mnemonic : String)
  /-- Answered by `runStep` (Machine/Driver.lean) and `hostCall` (Machine/HostCalls.lean) for step() and reset() before the
  first powerOn() (70_reset_and_hazards.md R213). Safe. -/
  | notPoweredOn
  /-- The static-table defect of 60_exceptions.md R192. Nothing answers it: the table of 30_encoding.md R71 is complete, so the
  condition cannot arise (R76; log entry 8). Safe. -/
  | malformedMetadata
deriving DecidableEq, Repr

/-- What one step, or one instruction, answers. -/
abbrev StepOutcome := Host.Outcome State Fault Refusal

/-- A newly created core (70_reset_and_hazards.md R213): `powered` false, `cycles` 0, no request. R34 gives its registers and
flags no value; the zeros here are the model's (DESIGN CHOICE, log entry 5) and no step runs from this state. -/
def State.created : State :=
  { pc := 0x0000, a := 0x00, x := 0x00, y := 0x00, sp := 0x00
    flags := { n := false, v := false, d := false, i := false, z := false, c := false }
    cycles := 0, resetReq := false, nmiReq := false, irqLine := false, pageCrossed := false
    powered := false, params := Params.default, mem := [] }

/-- The machine after `powerOn()` of a newly created core (R38, R210), under `POWER_ON_PC_SOURCE = Fixed(0xC000)`
(DESIGN CHOICE, log entry 2) and with no memory byte listed (log entry 3). -/
def State.reset : State :=
  { pc := 0xC000, a := 0x00, x := 0x00, y := 0x00, sp := 0xFD
    flags := { n := false, v := false, d := false, i := true, z := false, c := false }
    cycles := 0, resetReq := false, nmiReq := false, irqLine := false, pageCrossed := false
    powered := true, params := Params.default, mem := [] }

end Sys2Proof.Machine
end

