-- ==== Sys2Proof/Machine/Flags.lean ====
section
/-! DEFINITION. The status byte and every flag computation of the spec (10_state.md R26-R29, 42_alu.md, 43_shift_rotate.md), as
functions of bytes and flags alone. -/

namespace Sys2Proof.Machine

/-- `P_byte(b)` (R27): N, V, 1, b, D, I, Z, C from bit 7 down to bit 0. -/
def statusByte (brk : Bool) (f : Flags) : Byte :=
  BitVec.ofBool f.n ++ BitVec.ofBool f.v ++ 1#1 ++ BitVec.ofBool brk ++
    BitVec.ofBool f.d ++ BitVec.ofBool f.i ++ BitVec.ofBool f.z ++ BitVec.ofBool f.c

/-- `SetP(v)` (R28): the six stored flags from bits 7, 6, 3, 2, 1, 0; bits 5 and 4 are ignored. -/
def flagsOfByte (v : Byte) : Flags :=
  { n := v.getLsbD 7, v := v.getLsbD 6, d := v.getLsbD 3, i := v.getLsbD 2, z := v.getLsbD 1, c := v.getLsbD 0 }

/-- `SetNZ(v)` (R29): Z from a zero result, N from its bit 7. -/
def Flags.setNZ (f : Flags) (v : Byte) : Flags :=
  { f with n := v.getLsbD 7, z := v == 0x00#8 }

/-- The carry flag replaced. -/
def Flags.setC (f : Flags) (c : Bool) : Flags := { f with c := c }

/-- The overflow flag replaced. -/
def Flags.setV (f : Flags) (v : Bool) : Flags := { f with v := v }

/-- The decimal flag replaced. -/
def Flags.setD (f : Flags) (d : Bool) : Flags := { f with d := d }

/-- The interrupt-disable flag replaced. -/
def Flags.setI (f : Flags) (i : Bool) : Flags := { f with i := i }

/-- The widened sum A + M + C of ADC, 0 to 511 (R106). -/
def carrySum (a m : Byte) (c : Bool) : Nat := a.toNat + m.toNat + c.toNat

/-- The sum as stored: modulo 256 (R106, D22). -/
def addResult (a m : Byte) (c : Bool) : Byte := BitVec.ofNat 8 (carrySum a m c)

/-- The flags of an 8-bit addition with carry (R106): V by the two's-complement overflow test (90_conflicts.md C2), C when the
sum exceeds 255, N and Z from the stored sum. -/
def addFlags (a m : Byte) (f : Flags) : Flags :=
  let res := addResult a m f.c
  (((f.setV ((((a ^^^ res) &&& (m ^^^ res)) &&& 0x80#8) != 0x00#8)).setC
    (decide (carrySum a m f.c > 255))).setNZ res)

/-- The flags of a comparison of register value `r` with `m` (R111): C when `r >= m` unsigned, N and Z from the difference. -/
def compareFlags (r m : Byte) (f : Flags) : Flags :=
  (f.setC (decide (m.toNat ≤ r.toNat))).setNZ (r - m)

/-- The flags of BIT (R114): Z from A and M, N and V from bits 7 and 6 of M. -/
def bitFlags (a m : Byte) (f : Flags) : Flags :=
  { f with z := (a &&& m) == 0x00#8, n := m.getLsbD 7, v := m.getLsbD 6 }

/-- ASL's `Shift(v, C)` (R126): result and carry out. -/
def shiftAsl (v : Byte) (_c : Bool) : Byte × Bool := (v <<< 1, v.getLsbD 7)

/-- LSR's `Shift(v, C)` (R127). -/
def shiftLsr (v : Byte) (_c : Bool) : Byte × Bool := (v >>> 1, v.getLsbD 0)

/-- ROL's `Shift(v, C)` (R128): the old carry enters bit 0. -/
def shiftRol (v : Byte) (c : Bool) : Byte × Bool :=
  ((v <<< 1) ||| (if c then 0x01#8 else 0x00#8), v.getLsbD 7)

/-- ROR's `Shift(v, C)` (R129): the old carry enters bit 7. -/
def shiftRor (v : Byte) (c : Bool) : Byte × Bool :=
  ((v >>> 1) ||| (if c then 0x80#8 else 0x00#8), v.getLsbD 0)

end Sys2Proof.Machine
end

