-- ==== Sys2Proof/Machine/Ops.lean ====
section
/-! DEFINITION. The named operations over registers and memory: the memory contract (20_memory.md R49-R52), the stack
(41_stack.md R100-R103), the fetch (60_exceptions.md R188), interrupt entry (R186) and the return from it (47_system.md R176). -/

namespace Sys2Proof.Machine

/-! ### Memory as a list of cells -/

/-- What an address no cell lists reads as. R45 makes the image a parameter; 0x00 for the bytes nobody wrote is the model's
(DESIGN CHOICE, log entry 3, unsafe). -/
def unlistedByte : Byte := 0x00

/-- Addresses strictly rise from `lo` on and stay below 2^16, and no cell holds the unlisted byte. -/
def Memory.wfFrom : Nat → Memory → Bool
  | _, [] => true
  | lo, (k, b) :: rest => decide (lo ≤ k) && decide (k < 65536) && (b != unlistedByte) && Memory.wfFrom (k + 1) rest

/-- The canonical form of memory: equal memories are equal lists. -/
def Memory.wf (m : Memory) : Bool := Memory.wfFrom 0 m

/-- The byte at an address. -/
def Memory.read : Memory → Nat → Byte
  | [], _ => unlistedByte
  | (k, b) :: rest, addr => if k = addr then b else Memory.read rest addr

/-- No cell for this address any more. -/
def Memory.erase : Memory → Nat → Memory
  | [], _ => []
  | (k, b) :: rest, addr => if k = addr then Memory.erase rest addr else (k, b) :: Memory.erase rest addr

/-- A cell put before the first cell of a higher address. -/
def Memory.insert : Memory → Nat → Byte → Memory
  | [], addr, v => [(addr, v)]
  | (k, b) :: rest, addr, v => if addr < k then (addr, v) :: (k, b) :: rest else (k, b) :: Memory.insert rest addr v

/-- One byte replaced; writing the unlisted byte removes the cell, which keeps the form canonical. -/
def Memory.write (m : Memory) (addr : Nat) (v : Byte) : Memory :=
  if v = unlistedByte then m.erase addr else (m.erase addr).insert addr v

/-! ### Registers -/

/-- `pc <- v`. -/
def State.setPC (s : State) (v : Word) : State := { s with pc := v }

/-- `x[A] <- v`. -/
def State.setA (s : State) (v : Byte) : State := { s with a := v }

/-- `x[X] <- v`. -/
def State.setX (s : State) (v : Byte) : State := { s with x := v }

/-- `x[Y] <- v`. -/
def State.setY (s : State) (v : Byte) : State := { s with y := v }

/-- `x[SP] <- v`. -/
def State.setSP (s : State) (v : Byte) : State := { s with sp := v }

/-- The stored flags replaced. -/
def State.setFlags (s : State) (f : Flags) : State := { s with flags := f }

/-- `cycles <- cycles + n` (R11, R30). -/
def State.addCycles (s : State) (n : Nat) : State := { s with cycles := s.cycles + n }

/-- `page_crossed <- b` (R32). -/
def State.setPageCrossed (s : State) (b : Bool) : State := { s with pageCrossed := b }

/-- `reset_req <- b` (R31). -/
def State.setResetReq (s : State) (b : Bool) : State := { s with resetReq := b }

/-- `nmi_req <- b` (R31). -/
def State.setNmiReq (s : State) (b : Bool) : State := { s with nmiReq := b }

/-- `irq_line <- b` (R31). -/
def State.setIrqLine (s : State) (b : Bool) : State := { s with irqLine := b }

/-! ### The memory contract -/

/-- `MemRead(addr, 1)` (R49). -/
def readByte (s : State) (addr : Word) : Byte := s.mem.read addr.toNat

/-- `MemWrite(addr, 1, v)` (R50). -/
def writeByte (s : State) (addr : Word) (v : Byte) : State := { s with mem := s.mem.write addr.toNat v }

/-- `MemRead(addr, 2)` (R51): low byte at `addr`, high byte at `addr + 1` modulo 2^16. -/
def read16 (s : State) (addr : Word) : Word := joinBytes (readByte s (addr + 1)) (readByte s addr)

/-- `MemReadBuggy16(addr)` (R52): at a low byte of 0xFF the high byte comes from the start of the same page. -/
def readBuggy16 (s : State) (addr : Word) : Word :=
  if lowByte addr = 0xFF#8 then joinBytes (readByte s (addr &&& 0xFF00#16)) (readByte s addr)
  else joinBytes (readByte s (addr + 1)) (readByte s addr)

/-! ### The fetch -/

/-- PC past the opcode byte (R188). -/
def fetchOpcode (s : State) : State := s.setPC (s.pc + 1)

/-- The bytes the longest instruction at PC occupies, wrapping modulo 2^16 (30_encoding.md R65, R188). The decoder takes as many
as the opcode asks for (log entry 6). -/
def fetchBytes (s : State) : List Byte :=
  [readByte s s.pc, readByte s (s.pc + 1), readByte s (s.pc + 2)]

/-! ### The stack -/

/-- `0x0100 + SP` (R25, R104). -/
def stackAddr (sp : Byte) : Word := joinBytes 0x01 sp

/-- `Push(v)` (R100). -/
def push (v : Byte) (s : State) : State := (writeByte s (stackAddr s.sp) v).setSP (s.sp - 1)

/-- `Pop()` (R101): the byte and the state with SP moved. -/
def pop (s : State) : Byte × State := (readByte s (stackAddr (s.sp + 1)), s.setSP (s.sp + 1))

/-- `Push16(v)` (R102): high byte, then low byte. -/
def push16 (v : Word) (s : State) : State := push (lowByte v) (push (highByte v) s)

/-- `Pop16()` (R103): low byte, then high byte. -/
def pop16 (s : State) : Word × State :=
  let lo := pop s
  let hi := pop lo.2
  (joinBytes hi.1 lo.1, hi.2)

/-! ### Entering and leaving an interrupt -/

/-- The NMI vector (R58). -/
def nmiVector : Word := 0xFFFA

/-- The RESET vector (R58). -/
def resetVector : Word := 0xFFFC

/-- The IRQ/BRK vector (R58). -/
def irqVector : Word := 0xFFFE

/-- `InterruptEntry(vec)` (R186), shared by NMI and IRQ (`brk` false) and by BRK (`brk` true, R175): push PC and the status byte,
set I when `ENTRY_SETS_I`, load PC from the vector. -/
def interruptEntry (vec : Word) (brk : Bool) (s : State) : State :=
  let framed := push (statusByte brk s.flags) (push16 s.pc s)
  let masked := if s.params.entrySetsI then framed.setFlags (framed.flags.setI true) else framed
  masked.setPC (read16 masked vec)

/-- RTI's effect (R176): the status byte first, then PC, with no + 1. -/
def returnFromInterrupt (s : State) : State :=
  let status := pop s
  let target := pop16 (status.2.setFlags (flagsOfByte status.1))
  target.2.setPC target.1

end Sys2Proof.Machine
end

