-- ==== Sys2Proof/Machine/Operands.lean ====
section
/-! DEFINITION. The addressing-mode resolver (40_addressing.md R80-R97): where an operand is, whether a page was crossed, and how
operands are read and written. -/

namespace Sys2Proof.Machine

/-- The addressing modes that resolve to `Addr(ea)` (R80), each with its operand bytes as decoded (30_encoding.md R67). -/
inductive AddrMode where
  /-- Zero page (R86). -/
  | zeroPage (zz : Byte)
  /-- Zero page,X (R87). -/
  | zeroPageX (zz : Byte)
  /-- Zero page,Y (R88). -/
  | zeroPageY (zz : Byte)
  /-- Relative (R89). -/
  | relative (rr : Byte)
  /-- Absolute (R90). -/
  | absolute (hhll : Word)
  /-- Absolute,X (R91). -/
  | absoluteX (hhll : Word)
  /-- Absolute,Y (R92). -/
  | absoluteY (hhll : Word)
  /-- Indirect (R93). -/
  | indirect (ptr : Word)
  /-- (Indirect,X) (R94). -/
  | indirectX (zz : Byte)
  /-- (Indirect),Y (R95). -/
  | indirectY (zz : Byte)
deriving DecidableEq, Repr

/-- Where an instruction that reads one operand takes it from: `Imm(v)` or `Addr(ea)` (R80, R97). -/
inductive Source where
  /-- Immediate (R85). -/
  | immediate (nn : Byte)
  /-- A byte of memory. -/
  | memory (m : AddrMode)
deriving DecidableEq, Repr

/-- What a read-modify-write instruction reads and writes back: `Acc` or `Addr(ea)` (R80, R97). -/
inductive Target where
  /-- Accumulator mode (R84). -/
  | accumulator
  /-- A byte of memory. -/
  | memory (m : AddrMode)
deriving DecidableEq, Repr

/-- `zext_16(v)` (R10). -/
def zext16 (v : Byte) : Word := v.zeroExtend 16

/-- `sext_16(v)` (R10). -/
def sext16 (v : Byte) : Word := v.signExtend 16

/-- `Crossed(a, b)` (R82): the high bytes differ. -/
def crossed (a b : Word) : Bool := highByte a != highByte b

/-- The 16-bit pointer at zero-page address `p` (R94, R95): the second byte at `p + 1` as a 16-bit address, or modulo 256 when
`ZP_PTR_WRAP`. -/
def zeroPagePointer (s : State) (p : Byte) : Word :=
  let second := if s.params.zpPtrWrap then zext16 (p + 1) else zext16 p + 1
  joinBytes (readByte s second) (readByte s (zext16 p))

/-- The address an index is added to, for the modes that track a page crossing over data (R91, R92, R95), and the branch's base, the
address after its operand byte (R89). The other modes have no base apart from their address. -/
def baseAddr (m : AddrMode) (s : State) : Option Word :=
  match m with
  | .zeroPage _ => none
  | .zeroPageX _ => none
  | .zeroPageY _ => none
  | .relative _ => some (s.pc + 1)
  | .absolute _ => none
  | .absoluteX hhll => some hhll
  | .absoluteY hhll => some hhll
  | .indirect _ => none
  | .indirectX _ => none
  | .indirectY zz => some (zeroPagePointer s zz)

/-- The effective address (R86-R95), in a state whose PC is at the first operand byte. -/
def effectiveAddr (m : AddrMode) (s : State) : Word :=
  match m with
  | .zeroPage zz => zext16 zz
  | .zeroPageX zz => zext16 (zz + s.x)
  | .zeroPageY zz => zext16 (zz + s.y)
  | .relative rr => s.pc + 1 + sext16 rr
  | .absolute hhll => hhll
  | .absoluteX hhll => hhll + zext16 s.x
  | .absoluteY hhll => hhll + zext16 s.y
  | .indirect ptr => readBuggy16 s ptr
  | .indirectX zz => zeroPagePointer s (zz + s.x)
  | .indirectY zz => zeroPagePointer s zz + zext16 s.y

/-- What the resolution writes into `page_crossed` (R80, R82): the crossing between base and effective address where the mode tracks
one, false elsewhere (D27). -/
def addrCrossed (m : AddrMode) (s : State) : Bool :=
  match baseAddr m s with
  | some base => crossed base (effectiveAddr m s)
  | none => false

/-- How many operand bytes the mode consumes (30_encoding.md R65). -/
def AddrMode.operandBytes : AddrMode → Nat
  | .zeroPage _ => 1
  | .zeroPageX _ => 1
  | .zeroPageY _ => 1
  | .relative _ => 1
  | .absolute _ => 2
  | .absoluteX _ => 2
  | .absoluteY _ => 2
  | .indirect _ => 2
  | .indirectX _ => 1
  | .indirectY _ => 1

/-- The state after a resolution (R80): PC past `count` operand bytes, `page_crossed` written. -/
def consume (count : Nat) (wasCrossed : Bool) (s : State) : State :=
  (s.setPC (s.pc + BitVec.ofNat 16 count)).setPageCrossed wasCrossed

/-- `Resolve(mode)` for the modes that give an address (R80): the effective address and the state after. -/
def resolve (m : AddrMode) (s : State) : Word × State :=
  (effectiveAddr m s, consume m.operandBytes (addrCrossed m s) s)

/-- `Resolve(mode)` for implied and accumulator (R83, R84). -/
def resolveNone (s : State) : State := consume 0 false s

/-- `Load(Resolve(mode))` for a reading instruction (R85, R97): the operand and the state after. -/
def loadSource (src : Source) (s : State) : Byte × State :=
  match src with
  | .immediate nn => (nn, consume 1 false s)
  | .memory m =>
    let r := resolve m s
    (readByte r.2 r.1, r.2)

end Sys2Proof.Machine
end

