-- ==== Sys2Proof/Machine/Cycles.lean ====
section
/-! DEFINITION. The base-cycle table, 70_reset_and_hazards.md R227, indexed by the opcode byte (10_state.md R33). -/

namespace Sys2Proof.Machine

/-- One row of R227: the base cycles of the opcodes with this high nibble, 0 where the byte is unmapped (R224). -/
def baseCycleRow : Nat → List Nat
  | 0x0 => [7, 6, 0, 0, 0, 3, 5, 0, 3, 2, 2, 0, 0, 4, 6, 0]
  | 0x1 => [2, 5, 0, 0, 0, 4, 6, 0, 2, 4, 0, 0, 0, 4, 7, 0]
  | 0x2 => [6, 6, 0, 0, 3, 3, 5, 0, 4, 2, 2, 0, 4, 4, 6, 0]
  | 0x3 => [2, 5, 0, 0, 0, 4, 6, 0, 2, 4, 0, 0, 0, 4, 7, 0]
  | 0x4 => [6, 6, 0, 0, 0, 3, 5, 0, 3, 2, 2, 0, 3, 4, 6, 0]
  | 0x5 => [2, 5, 0, 0, 0, 4, 6, 0, 2, 4, 0, 0, 0, 4, 7, 0]
  | 0x6 => [6, 6, 0, 0, 0, 3, 5, 0, 4, 2, 2, 0, 5, 4, 6, 0]
  | 0x7 => [2, 5, 0, 0, 0, 4, 6, 0, 2, 4, 0, 0, 0, 4, 7, 0]
  | 0x8 => [0, 6, 0, 0, 3, 3, 3, 0, 2, 0, 2, 0, 4, 4, 4, 0]
  | 0x9 => [2, 6, 0, 0, 4, 4, 4, 0, 2, 5, 2, 0, 0, 5, 0, 0]
  | 0xA => [2, 6, 2, 0, 3, 3, 3, 0, 2, 2, 2, 0, 4, 4, 4, 0]
  | 0xB => [2, 5, 0, 0, 4, 4, 4, 0, 2, 4, 2, 0, 4, 4, 4, 0]
  | 0xC => [2, 6, 0, 0, 3, 3, 5, 0, 2, 2, 2, 0, 4, 4, 6, 0]
  | 0xD => [2, 5, 0, 0, 0, 4, 6, 0, 2, 4, 0, 0, 0, 4, 7, 0]
  | 0xE => [2, 6, 0, 0, 3, 3, 5, 0, 2, 2, 2, 0, 4, 4, 6, 0]
  | 0xF => [2, 5, 0, 0, 0, 4, 6, 0, 2, 4, 0, 0, 0, 4, 7, 0]
  | _ => []

/-- `base(row)` (R224, R227); 0 for an unmapped byte. -/
def baseCycles (opcode : Byte) : Nat :=
  (baseCycleRow (opcode.toNat / 16)).getD (opcode.toNat % 16) 0

end Sys2Proof.Machine
end

