-- ==== Sys2Proof/Machine/Execute.lean ====
section
/-! DEFINITION. The shapes instructions share (42_alu.md R105, 43_shift_rotate.md R125, 45_control_flow.md R146). Each takes the opcode
byte, for its base cycles (R227), and a state whose PC is at the opcode: it steps PC past the opcode (R188), resolves the operand
(R80), runs the body and adds the instruction's cycles (R224). -/

namespace Sys2Proof.Machine

/-- An instruction that reads one operand: `body` takes `Load(Resolve(mode))`. One cycle more when the page was crossed (R226);
only abs,X, abs,Y and (zp),Y can report a crossing here, and the mnemonics with those modes are R226's read class. -/
def readInstr (opcode : Byte) (body : Byte → State → State) (src : Source) (s : State) : State :=
  let operand := loadSource src (fetchOpcode s)
  (body operand.1 operand.2).addCycles (baseCycles opcode + operand.2.pageCrossed.toNat)

/-- A store: the register value `value` goes to the effective address (R133-R135); no page-crossing penalty. -/
def storeInstr (opcode : Byte) (value : State → Byte) (m : AddrMode) (s : State) : State :=
  let place := resolve m (fetchOpcode s)
  (writeByte place.2 place.1 (value place.2)).addCycles (baseCycles opcode)

/-- A read-modify-write instruction (R125, R115, R116): one read and one write of the same place; no penalty. `op` gives the result and
the flags from the byte read and the flags before. -/
def modifyInstr (opcode : Byte) (op : Byte → Flags → Byte × Flags) (target : Target) (s : State) : State :=
  match target with
  | .accumulator =>
    let s1 := resolveNone (fetchOpcode s)
    let r := op s1.a s1.flags
    ((s1.setA r.1).setFlags r.2).addCycles (baseCycles opcode)
  | .memory m =>
    let place := resolve m (fetchOpcode s)
    let r := op (readByte place.2 place.1) place.2.flags
    ((writeByte place.2 place.1 r.1).setFlags r.2).addCycles (baseCycles opcode)

/-- An implied instruction: no operand byte (R83). -/
def impliedInstr (opcode : Byte) (body : State → State) (s : State) : State :=
  (body (resolveNone (fetchOpcode s))).addCycles (baseCycles opcode)

/-- A branch (R146): the operand is always consumed; when the condition holds PC takes the target, one more cycle, two when the page
is crossed (R225). -/
def branchInstr (opcode : Byte) (cond : Flags → Bool) (rr : Byte) (s : State) : State :=
  let target := resolve (.relative rr) (fetchOpcode s)
  if cond target.2.flags then
    (target.2.setPC target.1).addCycles (baseCycles opcode + 1 + target.2.pageCrossed.toNat)
  else
    target.2.addCycles (baseCycles opcode)

/-- A jump (R145): PC takes the resolved address. -/
def jumpInstr (opcode : Byte) (m : AddrMode) (s : State) : State :=
  let target := resolve m (fetchOpcode s)
  (target.2.setPC target.1).addCycles (baseCycles opcode)

end Sys2Proof.Machine
end

