-- ==== Sys2Proof/Machine/ControlFlow.lean ====
section
/-! DEFINITION. Control transfer (spec/45_control_flow.md R145-R156): JMP, the eight branches, JSR, RTS. -/

namespace Sys2Proof.Machine

/-- JSR's effect (R155), in a state whose PC is past the three bytes: push PC - 1, then jump. -/
def callSubroutine (target : Word) (s : State) : State := (push16 (s.pc - 1) s).setPC target

/-- RTS's effect (R156): PC takes the popped word + 1. -/
def returnFromSubroutine (s : State) : State :=
  let ret := pop16 s
  ret.2.setPC (ret.1 + 1)

/-! ### JMP (R145) -/

/-- JMP, absolute, 0x4C (R145, R90). -/
def execJmpAbs (hhll : Word) (s : State) : StepOutcome :=
  .next (jumpInstr 0x4C (.absolute hhll) s)

/-- JMP, indirect, 0x6C (R145, R93). -/
def execJmpInd (ptr : Word) (s : State) : StepOutcome :=
  .next (jumpInstr 0x6C (.indirect ptr) s)

/-! ### BCC (R147) -/

/-- BCC, relative, 0x90 (R147, R89). -/
def execBcc (rr : Byte) (s : State) : StepOutcome :=
  .next (branchInstr 0x90 (fun f => !f.c) rr s)

/-! ### BCS (R148) -/

/-- BCS, relative, 0xB0 (R148, R89). -/
def execBcs (rr : Byte) (s : State) : StepOutcome :=
  .next (branchInstr 0xB0 (fun f => f.c) rr s)

/-! ### BEQ (R149) -/

/-- BEQ, relative, 0xF0 (R149, R89). -/
def execBeq (rr : Byte) (s : State) : StepOutcome :=
  .next (branchInstr 0xF0 (fun f => f.z) rr s)

/-! ### BMI (R150) -/

/-- BMI, relative, 0x30 (R150, R89). -/
def execBmi (rr : Byte) (s : State) : StepOutcome :=
  .next (branchInstr 0x30 (fun f => f.n) rr s)

/-! ### BNE (R151) -/

/-- BNE, relative, 0xD0 (R151, R89). -/
def execBne (rr : Byte) (s : State) : StepOutcome :=
  .next (branchInstr 0xD0 (fun f => !f.z) rr s)

/-! ### BPL (R152) -/

/-- BPL, relative, 0x10 (R152, R89). -/
def execBpl (rr : Byte) (s : State) : StepOutcome :=
  .next (branchInstr 0x10 (fun f => !f.n) rr s)

/-! ### BVC (R153) -/

/-- BVC, relative, 0x50 (R153, R89). -/
def execBvc (rr : Byte) (s : State) : StepOutcome :=
  .next (branchInstr 0x50 (fun f => !f.v) rr s)

/-! ### BVS (R154) -/

/-- BVS, relative, 0x70 (R154, R89). -/
def execBvs (rr : Byte) (s : State) : StepOutcome :=
  .next (branchInstr 0x70 (fun f => f.v) rr s)

/-! ### JSR (R155) -/

/-- JSR, absolute, 0x20 (R155, R90): both operand bytes are consumed before the pushes. -/
def execJsr (hhll : Word) (s : State) : StepOutcome :=
  let target := resolve (.absolute hhll) (fetchOpcode s)
  .next ((callSubroutine target.1 target.2).addCycles (baseCycles 0x20))

/-! ### RTS (R156) -/

/-- RTS, implied, 0x60 (R156, R83). -/
def execRts (s : State) : StepOutcome :=
  .next (impliedInstr 0x60 returnFromSubroutine s)

end Sys2Proof.Machine
end

