-- ==== Sys2Proof/Machine/Alu.lean ====
section
/-! DEFINITION. The ALU instructions (spec/42_alu.md R106-R120): ADC SBC AND ORA EOR CMP CPX CPY BIT INC DEC INX INY DEX DEY. All
arithmetic is binary: D is read by nothing here (D2). -/

namespace Sys2Proof.Machine

/-- ADC's effect (R106). -/
def addToA (m : Byte) (s : State) : State :=
  (s.setA (addResult s.a m s.flags.c)).setFlags (addFlags s.a m s.flags)

/-- SBC's effect (R107): ADC of the one's complement of M. -/
def subFromA (m : Byte) (s : State) : State := addToA (~~~m) s

/-- A register result: A takes it, N and Z follow it (R29). -/
def resultToA (v : Byte) (s : State) : State := (s.setA v).setFlags (s.flags.setNZ v)

/-- X takes a result, N and Z follow it (R29). -/
def resultToX (v : Byte) (s : State) : State := (s.setX v).setFlags (s.flags.setNZ v)

/-- Y takes a result, N and Z follow it (R29). -/
def resultToY (v : Byte) (s : State) : State := (s.setY v).setFlags (s.flags.setNZ v)

/-- AND's effect (R108). -/
def andWithA (m : Byte) (s : State) : State := resultToA (s.a &&& m) s

/-- ORA's effect (R109). -/
def orWithA (m : Byte) (s : State) : State := resultToA (s.a ||| m) s

/-- EOR's effect (R110). -/
def xorWithA (m : Byte) (s : State) : State := resultToA (s.a ^^^ m) s

/-- CMP's effect (R111). -/
def compareA (m : Byte) (s : State) : State := s.setFlags (compareFlags s.a m s.flags)

/-- CPX's effect (R112). -/
def compareX (m : Byte) (s : State) : State := s.setFlags (compareFlags s.x m s.flags)

/-- CPY's effect (R113). -/
def compareY (m : Byte) (s : State) : State := s.setFlags (compareFlags s.y m s.flags)

/-- BIT's effect (R114). -/
def testBits (m : Byte) (s : State) : State := s.setFlags (bitFlags s.a m s.flags)

/-- INC's result and flags (R115): C is unchanged. -/
def incByte (v : Byte) (f : Flags) : Byte × Flags := (v + 1, f.setNZ (v + 1))

/-- DEC's result and flags (R116). -/
def decByte (v : Byte) (f : Flags) : Byte × Flags := (v - 1, f.setNZ (v - 1))

/-! ### ADC (R106) -/

/-- ADC, (indirect,X), 0x61 (R106, R94). -/
def execAdcIndX (zz : Byte) (s : State) : StepOutcome :=
  .next (readInstr 0x61 addToA (.memory (.indirectX zz)) s)

/-- ADC, zero page, 0x65 (R106, R86). -/
def execAdcZp (zz : Byte) (s : State) : StepOutcome :=
  .next (readInstr 0x65 addToA (.memory (.zeroPage zz)) s)

/-- ADC, immediate, 0x69 (R106, R85). -/
def execAdcImm (nn : Byte) (s : State) : StepOutcome :=
  .next (readInstr 0x69 addToA (.immediate nn) s)

/-- ADC, absolute, 0x6D (R106, R90). -/
def execAdcAbs (hhll : Word) (s : State) : StepOutcome :=
  .next (readInstr 0x6D addToA (.memory (.absolute hhll)) s)

/-- ADC, (indirect),Y, 0x71 (R106, R95). -/
def execAdcIndY (zz : Byte) (s : State) : StepOutcome :=
  .next (readInstr 0x71 addToA (.memory (.indirectY zz)) s)

/-- ADC, zero page,X, 0x75 (R106, R87). -/
def execAdcZpX (zz : Byte) (s : State) : StepOutcome :=
  .next (readInstr 0x75 addToA (.memory (.zeroPageX zz)) s)

/-- ADC, absolute,Y, 0x79 (R106, R92). -/
def execAdcAbsY (hhll : Word) (s : State) : StepOutcome :=
  .next (readInstr 0x79 addToA (.memory (.absoluteY hhll)) s)

/-- ADC, absolute,X, 0x7D (R106, R91). -/
def execAdcAbsX (hhll : Word) (s : State) : StepOutcome :=
  .next (readInstr 0x7D addToA (.memory (.absoluteX hhll)) s)

/-! ### SBC (R107) -/

/-- SBC, (indirect,X), 0xE1 (R107, R94). -/
def execSbcIndX (zz : Byte) (s : State) : StepOutcome :=
  .next (readInstr 0xE1 subFromA (.memory (.indirectX zz)) s)

/-- SBC, zero page, 0xE5 (R107, R86). -/
def execSbcZp (zz : Byte) (s : State) : StepOutcome :=
  .next (readInstr 0xE5 subFromA (.memory (.zeroPage zz)) s)

/-- SBC, immediate, 0xE9 (R107, R85). -/
def execSbcImm (nn : Byte) (s : State) : StepOutcome :=
  .next (readInstr 0xE9 subFromA (.immediate nn) s)

/-- SBC, absolute, 0xED (R107, R90). -/
def execSbcAbs (hhll : Word) (s : State) : StepOutcome :=
  .next (readInstr 0xED subFromA (.memory (.absolute hhll)) s)

/-- SBC, (indirect),Y, 0xF1 (R107, R95). -/
def execSbcIndY (zz : Byte) (s : State) : StepOutcome :=
  .next (readInstr 0xF1 subFromA (.memory (.indirectY zz)) s)

/-- SBC, zero page,X, 0xF5 (R107, R87). -/
def execSbcZpX (zz : Byte) (s : State) : StepOutcome :=
  .next (readInstr 0xF5 subFromA (.memory (.zeroPageX zz)) s)

/-- SBC, absolute,Y, 0xF9 (R107, R92). -/
def execSbcAbsY (hhll : Word) (s : State) : StepOutcome :=
  .next (readInstr 0xF9 subFromA (.memory (.absoluteY hhll)) s)

/-- SBC, absolute,X, 0xFD (R107, R91). -/
def execSbcAbsX (hhll : Word) (s : State) : StepOutcome :=
  .next (readInstr 0xFD subFromA (.memory (.absoluteX hhll)) s)

/-! ### AND (R108) -/

/-- AND, (indirect,X), 0x21 (R108, R94). -/
def execAndIndX (zz : Byte) (s : State) : StepOutcome :=
  .next (readInstr 0x21 andWithA (.memory (.indirectX zz)) s)

/-- AND, zero page, 0x25 (R108, R86). -/
def execAndZp (zz : Byte) (s : State) : StepOutcome :=
  .next (readInstr 0x25 andWithA (.memory (.zeroPage zz)) s)

/-- AND, immediate, 0x29 (R108, R85). -/
def execAndImm (nn : Byte) (s : State) : StepOutcome :=
  .next (readInstr 0x29 andWithA (.immediate nn) s)

/-- AND, absolute, 0x2D (R108, R90). -/
def execAndAbs (hhll : Word) (s : State) : StepOutcome :=
  .next (readInstr 0x2D andWithA (.memory (.absolute hhll)) s)

/-- AND, (indirect),Y, 0x31 (R108, R95). -/
def execAndIndY (zz : Byte) (s : State) : StepOutcome :=
  .next (readInstr 0x31 andWithA (.memory (.indirectY zz)) s)

/-- AND, zero page,X, 0x35 (R108, R87). -/
def execAndZpX (zz : Byte) (s : State) : StepOutcome :=
  .next (readInstr 0x35 andWithA (.memory (.zeroPageX zz)) s)

/-- AND, absolute,Y, 0x39 (R108, R92). -/
def execAndAbsY (hhll : Word) (s : State) : StepOutcome :=
  .next (readInstr 0x39 andWithA (.memory (.absoluteY hhll)) s)

/-- AND, absolute,X, 0x3D (R108, R91). -/
def execAndAbsX (hhll : Word) (s : State) : StepOutcome :=
  .next (readInstr 0x3D andWithA (.memory (.absoluteX hhll)) s)

/-! ### ORA (R109) -/

/-- ORA, (indirect,X), 0x01 (R109, R94). -/
def execOraIndX (zz : Byte) (s : State) : StepOutcome :=
  .next (readInstr 0x01 orWithA (.memory (.indirectX zz)) s)

/-- ORA, zero page, 0x05 (R109, R86). -/
def execOraZp (zz : Byte) (s : State) : StepOutcome :=
  .next (readInstr 0x05 orWithA (.memory (.zeroPage zz)) s)

/-- ORA, immediate, 0x09 (R109, R85). -/
def execOraImm (nn : Byte) (s : State) : StepOutcome :=
  .next (readInstr 0x09 orWithA (.immediate nn) s)

/-- ORA, absolute, 0x0D (R109, R90). -/
def execOraAbs (hhll : Word) (s : State) : StepOutcome :=
  .next (readInstr 0x0D orWithA (.memory (.absolute hhll)) s)

/-- ORA, (indirect),Y, 0x11 (R109, R95). -/
def execOraIndY (zz : Byte) (s : State) : StepOutcome :=
  .next (readInstr 0x11 orWithA (.memory (.indirectY zz)) s)

/-- ORA, zero page,X, 0x15 (R109, R87). -/
def execOraZpX (zz : Byte) (s : State) : StepOutcome :=
  .next (readInstr 0x15 orWithA (.memory (.zeroPageX zz)) s)

/-- ORA, absolute,Y, 0x19 (R109, R92). -/
def execOraAbsY (hhll : Word) (s : State) : StepOutcome :=
  .next (readInstr 0x19 orWithA (.memory (.absoluteY hhll)) s)

/-- ORA, absolute,X, 0x1D (R109, R91). -/
def execOraAbsX (hhll : Word) (s : State) : StepOutcome :=
  .next (readInstr 0x1D orWithA (.memory (.absoluteX hhll)) s)

/-! ### EOR (R110) -/

/-- EOR, (indirect,X), 0x41 (R110, R94). -/
def execEorIndX (zz : Byte) (s : State) : StepOutcome :=
  .next (readInstr 0x41 xorWithA (.memory (.indirectX zz)) s)

/-- EOR, zero page, 0x45 (R110, R86). -/
def execEorZp (zz : Byte) (s : State) : StepOutcome :=
  .next (readInstr 0x45 xorWithA (.memory (.zeroPage zz)) s)

/-- EOR, immediate, 0x49 (R110, R85). -/
def execEorImm (nn : Byte) (s : State) : StepOutcome :=
  .next (readInstr 0x49 xorWithA (.immediate nn) s)

/-- EOR, absolute, 0x4D (R110, R90). -/
def execEorAbs (hhll : Word) (s : State) : StepOutcome :=
  .next (readInstr 0x4D xorWithA (.memory (.absolute hhll)) s)

/-- EOR, (indirect),Y, 0x51 (R110, R95). -/
def execEorIndY (zz : Byte) (s : State) : StepOutcome :=
  .next (readInstr 0x51 xorWithA (.memory (.indirectY zz)) s)

/-- EOR, zero page,X, 0x55 (R110, R87). -/
def execEorZpX (zz : Byte) (s : State) : StepOutcome :=
  .next (readInstr 0x55 xorWithA (.memory (.zeroPageX zz)) s)

/-- EOR, absolute,Y, 0x59 (R110, R92). -/
def execEorAbsY (hhll : Word) (s : State) : StepOutcome :=
  .next (readInstr 0x59 xorWithA (.memory (.absoluteY hhll)) s)

/-- EOR, absolute,X, 0x5D (R110, R91). -/
def execEorAbsX (hhll : Word) (s : State) : StepOutcome :=
  .next (readInstr 0x5D xorWithA (.memory (.absoluteX hhll)) s)

/-! ### CMP (R111) -/

/-- CMP, (indirect,X), 0xC1 (R111, R94). -/
def execCmpIndX (zz : Byte) (s : State) : StepOutcome :=
  .next (readInstr 0xC1 compareA (.memory (.indirectX zz)) s)

/-- CMP, zero page, 0xC5 (R111, R86). -/
def execCmpZp (zz : Byte) (s : State) : StepOutcome :=
  .next (readInstr 0xC5 compareA (.memory (.zeroPage zz)) s)

/-- CMP, immediate, 0xC9 (R111, R85). -/
def execCmpImm (nn : Byte) (s : State) : StepOutcome :=
  .next (readInstr 0xC9 compareA (.immediate nn) s)

/-- CMP, absolute, 0xCD (R111, R90). -/
def execCmpAbs (hhll : Word) (s : State) : StepOutcome :=
  .next (readInstr 0xCD compareA (.memory (.absolute hhll)) s)

/-- CMP, (indirect),Y, 0xD1 (R111, R95). -/
def execCmpIndY (zz : Byte) (s : State) : StepOutcome :=
  .next (readInstr 0xD1 compareA (.memory (.indirectY zz)) s)

/-- CMP, zero page,X, 0xD5 (R111, R87). -/
def execCmpZpX (zz : Byte) (s : State) : StepOutcome :=
  .next (readInstr 0xD5 compareA (.memory (.zeroPageX zz)) s)

/-- CMP, absolute,Y, 0xD9 (R111, R92). -/
def execCmpAbsY (hhll : Word) (s : State) : StepOutcome :=
  .next (readInstr 0xD9 compareA (.memory (.absoluteY hhll)) s)

/-- CMP, absolute,X, 0xDD (R111, R91). -/
def execCmpAbsX (hhll : Word) (s : State) : StepOutcome :=
  .next (readInstr 0xDD compareA (.memory (.absoluteX hhll)) s)

/-! ### CPX (R112) -/

/-- CPX, immediate, 0xE0 (R112, R85). -/
def execCpxImm (nn : Byte) (s : State) : StepOutcome :=
  .next (readInstr 0xE0 compareX (.immediate nn) s)

/-- CPX, zero page, 0xE4 (R112, R86). -/
def execCpxZp (zz : Byte) (s : State) : StepOutcome :=
  .next (readInstr 0xE4 compareX (.memory (.zeroPage zz)) s)

/-- CPX, absolute, 0xEC (R112, R90). -/
def execCpxAbs (hhll : Word) (s : State) : StepOutcome :=
  .next (readInstr 0xEC compareX (.memory (.absolute hhll)) s)

/-! ### CPY (R113) -/

/-- CPY, immediate, 0xC0 (R113, R85). -/
def execCpyImm (nn : Byte) (s : State) : StepOutcome :=
  .next (readInstr 0xC0 compareY (.immediate nn) s)

/-- CPY, zero page, 0xC4 (R113, R86). -/
def execCpyZp (zz : Byte) (s : State) : StepOutcome :=
  .next (readInstr 0xC4 compareY (.memory (.zeroPage zz)) s)

/-- CPY, absolute, 0xCC (R113, R90). -/
def execCpyAbs (hhll : Word) (s : State) : StepOutcome :=
  .next (readInstr 0xCC compareY (.memory (.absolute hhll)) s)

/-! ### BIT (R114) -/

/-- BIT, zero page, 0x24 (R114, R86). -/
def execBitZp (zz : Byte) (s : State) : StepOutcome :=
  .next (readInstr 0x24 testBits (.memory (.zeroPage zz)) s)

/-- BIT, absolute, 0x2C (R114, R90). -/
def execBitAbs (hhll : Word) (s : State) : StepOutcome :=
  .next (readInstr 0x2C testBits (.memory (.absolute hhll)) s)

/-! ### INC (R115) -/

/-- INC, zero page, 0xE6 (R115, R86). -/
def execIncZp (zz : Byte) (s : State) : StepOutcome :=
  .next (modifyInstr 0xE6 incByte (.memory (.zeroPage zz)) s)

/-- INC, absolute, 0xEE (R115, R90). -/
def execIncAbs (hhll : Word) (s : State) : StepOutcome :=
  .next (modifyInstr 0xEE incByte (.memory (.absolute hhll)) s)

/-- INC, zero page,X, 0xF6 (R115, R87). -/
def execIncZpX (zz : Byte) (s : State) : StepOutcome :=
  .next (modifyInstr 0xF6 incByte (.memory (.zeroPageX zz)) s)

/-- INC, absolute,X, 0xFE (R115, R91). -/
def execIncAbsX (hhll : Word) (s : State) : StepOutcome :=
  .next (modifyInstr 0xFE incByte (.memory (.absoluteX hhll)) s)

/-! ### DEC (R116) -/

/-- DEC, zero page, 0xC6 (R116, R86). -/
def execDecZp (zz : Byte) (s : State) : StepOutcome :=
  .next (modifyInstr 0xC6 decByte (.memory (.zeroPage zz)) s)

/-- DEC, absolute, 0xCE (R116, R90). -/
def execDecAbs (hhll : Word) (s : State) : StepOutcome :=
  .next (modifyInstr 0xCE decByte (.memory (.absolute hhll)) s)

/-- DEC, zero page,X, 0xD6 (R116, R87). -/
def execDecZpX (zz : Byte) (s : State) : StepOutcome :=
  .next (modifyInstr 0xD6 decByte (.memory (.zeroPageX zz)) s)

/-- DEC, absolute,X, 0xDE (R116, R91). -/
def execDecAbsX (hhll : Word) (s : State) : StepOutcome :=
  .next (modifyInstr 0xDE decByte (.memory (.absoluteX hhll)) s)

/-! ### INX (R117) -/

/-- INX, implied, 0xE8 (R117, R83). -/
def execInx (s : State) : StepOutcome :=
  .next (impliedInstr 0xE8 (fun s => resultToX (s.x + 1) s) s)

/-! ### INY (R118) -/

/-- INY, implied, 0xC8 (R118, R83). -/
def execIny (s : State) : StepOutcome :=
  .next (impliedInstr 0xC8 (fun s => resultToY (s.y + 1) s) s)

/-! ### DEX (R119) -/

/-- DEX, implied, 0xCA (R119, R83). -/
def execDex (s : State) : StepOutcome :=
  .next (impliedInstr 0xCA (fun s => resultToX (s.x - 1) s) s)

/-! ### DEY (R120) -/

/-- DEY, implied, 0x88 (R120, R83). -/
def execDey (s : State) : StepOutcome :=
  .next (impliedInstr 0x88 (fun s => resultToY (s.y - 1) s) s)

end Sys2Proof.Machine
end

