-- ==== Sys2Proof/Machine/FlagStack.lean ====
section
/-! DEFINITION. The flag instructions, PHA PHP PLA PLP and NOP (spec/46_flags_stack_misc.md R160-R171). -/

namespace Sys2Proof.Machine

/-- PLA's effect (R169). -/
def pullA (s : State) : State :=
  let r := pop s
  resultToA r.1 r.2

/-- PLP's effect (R170). -/
def pullFlags (s : State) : State :=
  let r := pop s
  r.2.setFlags (flagsOfByte r.1)

/-! ### CLC (R160) -/

/-- CLC, implied, 0x18 (R160, R83). -/
def execClc (s : State) : StepOutcome :=
  .next (impliedInstr 0x18 (fun s => s.setFlags (s.flags.setC false)) s)

/-! ### CLD (R161) -/

/-- CLD, implied, 0xD8 (R161, R83). -/
def execCld (s : State) : StepOutcome :=
  .next (impliedInstr 0xD8 (fun s => s.setFlags (s.flags.setD false)) s)

/-! ### CLI (R162) -/

/-- CLI, implied, 0x58 (R162, R83). -/
def execCli (s : State) : StepOutcome :=
  .next (impliedInstr 0x58 (fun s => s.setFlags (s.flags.setI false)) s)

/-! ### CLV (R163) -/

/-- CLV, implied, 0xB8 (R163, R83). -/
def execClv (s : State) : StepOutcome :=
  .next (impliedInstr 0xB8 (fun s => s.setFlags (s.flags.setV false)) s)

/-! ### SEC (R164) -/

/-- SEC, implied, 0x38 (R164, R83). -/
def execSec (s : State) : StepOutcome :=
  .next (impliedInstr 0x38 (fun s => s.setFlags (s.flags.setC true)) s)

/-! ### SED (R165) -/

/-- SED, implied, 0xF8 (R165, R83). -/
def execSed (s : State) : StepOutcome :=
  .next (impliedInstr 0xF8 (fun s => s.setFlags (s.flags.setD true)) s)

/-! ### SEI (R166) -/

/-- SEI, implied, 0x78 (R166, R83). -/
def execSei (s : State) : StepOutcome :=
  .next (impliedInstr 0x78 (fun s => s.setFlags (s.flags.setI true)) s)

/-! ### PHA (R167) -/

/-- PHA, implied, 0x48 (R167, R83). -/
def execPha (s : State) : StepOutcome :=
  .next (impliedInstr 0x48 (fun s => push s.a s) s)

/-! ### PHP (R168) -/

/-- PHP, implied, 0x08 (R168, R83). -/
def execPhp (s : State) : StepOutcome :=
  .next (impliedInstr 0x08 (fun s => push (statusByte true s.flags) s) s)

/-! ### PLA (R169) -/

/-- PLA, implied, 0x68 (R169, R83). -/
def execPla (s : State) : StepOutcome :=
  .next (impliedInstr 0x68 pullA s)

/-! ### PLP (R170) -/

/-- PLP, implied, 0x28 (R170, R83). -/
def execPlp (s : State) : StepOutcome :=
  .next (impliedInstr 0x28 pullFlags s)

/-! ### NOP (R171) -/

/-- NOP, implied, 0xEA (R171, R83). -/
def execNop (s : State) : StepOutcome :=
  .next (impliedInstr 0xEA (fun s => s) s)

end Sys2Proof.Machine
end

