-- ==== Sys2Proof/Machine/LoadStore.lean ====
section
/-! DEFINITION. Loads, stores and register transfers (spec/44_load_store_transfer.md R130-R141): LDA LDX LDY STA STX STY TAX TAY TXA TYA
TSX TXS. -/

namespace Sys2Proof.Machine

/-! ### LDA (R130) -/

/-- LDA, (indirect,X), 0xA1 (R130, R94). -/
def execLdaIndX (zz : Byte) (s : State) : StepOutcome :=
  .next (readInstr 0xA1 resultToA (.memory (.indirectX zz)) s)

/-- LDA, zero page, 0xA5 (R130, R86). -/
def execLdaZp (zz : Byte) (s : State) : StepOutcome :=
  .next (readInstr 0xA5 resultToA (.memory (.zeroPage zz)) s)

/-- LDA, immediate, 0xA9 (R130, R85). -/
def execLdaImm (nn : Byte) (s : State) : StepOutcome :=
  .next (readInstr 0xA9 resultToA (.immediate nn) s)

/-- LDA, absolute, 0xAD (R130, R90). -/
def execLdaAbs (hhll : Word) (s : State) : StepOutcome :=
  .next (readInstr 0xAD resultToA (.memory (.absolute hhll)) s)

/-- LDA, (indirect),Y, 0xB1 (R130, R95). -/
def execLdaIndY (zz : Byte) (s : State) : StepOutcome :=
  .next (readInstr 0xB1 resultToA (.memory (.indirectY zz)) s)

/-- LDA, zero page,X, 0xB5 (R130, R87). -/
def execLdaZpX (zz : Byte) (s : State) : StepOutcome :=
  .next (readInstr 0xB5 resultToA (.memory (.zeroPageX zz)) s)

/-- LDA, absolute,Y, 0xB9 (R130, R92). -/
def execLdaAbsY (hhll : Word) (s : State) : StepOutcome :=
  .next (readInstr 0xB9 resultToA (.memory (.absoluteY hhll)) s)

/-- LDA, absolute,X, 0xBD (R130, R91). -/
def execLdaAbsX (hhll : Word) (s : State) : StepOutcome :=
  .next (readInstr 0xBD resultToA (.memory (.absoluteX hhll)) s)

/-! ### LDX (R131) -/

/-- LDX, immediate, 0xA2 (R131, R85). -/
def execLdxImm (nn : Byte) (s : State) : StepOutcome :=
  .next (readInstr 0xA2 resultToX (.immediate nn) s)

/-- LDX, zero page, 0xA6 (R131, R86). -/
def execLdxZp (zz : Byte) (s : State) : StepOutcome :=
  .next (readInstr 0xA6 resultToX (.memory (.zeroPage zz)) s)

/-- LDX, absolute, 0xAE (R131, R90). -/
def execLdxAbs (hhll : Word) (s : State) : StepOutcome :=
  .next (readInstr 0xAE resultToX (.memory (.absolute hhll)) s)

/-- LDX, zero page,Y, 0xB6 (R131, R88). -/
def execLdxZpY (zz : Byte) (s : State) : StepOutcome :=
  .next (readInstr 0xB6 resultToX (.memory (.zeroPageY zz)) s)

/-- LDX, absolute,Y, 0xBE (R131, R92). -/
def execLdxAbsY (hhll : Word) (s : State) : StepOutcome :=
  .next (readInstr 0xBE resultToX (.memory (.absoluteY hhll)) s)

/-! ### LDY (R132) -/

/-- LDY, immediate, 0xA0 (R132, R85). -/
def execLdyImm (nn : Byte) (s : State) : StepOutcome :=
  .next (readInstr 0xA0 resultToY (.immediate nn) s)

/-- LDY, zero page, 0xA4 (R132, R86). -/
def execLdyZp (zz : Byte) (s : State) : StepOutcome :=
  .next (readInstr 0xA4 resultToY (.memory (.zeroPage zz)) s)

/-- LDY, absolute, 0xAC (R132, R90). -/
def execLdyAbs (hhll : Word) (s : State) : StepOutcome :=
  .next (readInstr 0xAC resultToY (.memory (.absolute hhll)) s)

/-- LDY, zero page,X, 0xB4 (R132, R87). -/
def execLdyZpX (zz : Byte) (s : State) : StepOutcome :=
  .next (readInstr 0xB4 resultToY (.memory (.zeroPageX zz)) s)

/-- LDY, absolute,X, 0xBC (R132, R91). -/
def execLdyAbsX (hhll : Word) (s : State) : StepOutcome :=
  .next (readInstr 0xBC resultToY (.memory (.absoluteX hhll)) s)

/-! ### STA (R133) -/

/-- STA, (indirect,X), 0x81 (R133, R94). -/
def execStaIndX (zz : Byte) (s : State) : StepOutcome :=
  .next (storeInstr 0x81 State.a (.indirectX zz) s)

/-- STA, zero page, 0x85 (R133, R86). -/
def execStaZp (zz : Byte) (s : State) : StepOutcome :=
  .next (storeInstr 0x85 State.a (.zeroPage zz) s)

/-- STA, absolute, 0x8D (R133, R90). -/
def execStaAbs (hhll : Word) (s : State) : StepOutcome :=
  .next (storeInstr 0x8D State.a (.absolute hhll) s)

/-- STA, (indirect),Y, 0x91 (R133, R95). -/
def execStaIndY (zz : Byte) (s : State) : StepOutcome :=
  .next (storeInstr 0x91 State.a (.indirectY zz) s)

/-- STA, zero page,X, 0x95 (R133, R87). -/
def execStaZpX (zz : Byte) (s : State) : StepOutcome :=
  .next (storeInstr 0x95 State.a (.zeroPageX zz) s)

/-- STA, absolute,Y, 0x99 (R133, R92). -/
def execStaAbsY (hhll : Word) (s : State) : StepOutcome :=
  .next (storeInstr 0x99 State.a (.absoluteY hhll) s)

/-- STA, absolute,X, 0x9D (R133, R91). -/
def execStaAbsX (hhll : Word) (s : State) : StepOutcome :=
  .next (storeInstr 0x9D State.a (.absoluteX hhll) s)

/-! ### STX (R134) -/

/-- STX, zero page, 0x86 (R134, R86). -/
def execStxZp (zz : Byte) (s : State) : StepOutcome :=
  .next (storeInstr 0x86 State.x (.zeroPage zz) s)

/-- STX, absolute, 0x8E (R134, R90). -/
def execStxAbs (hhll : Word) (s : State) : StepOutcome :=
  .next (storeInstr 0x8E State.x (.absolute hhll) s)

/-- STX, zero page,Y, 0x96 (R134, R88). -/
def execStxZpY (zz : Byte) (s : State) : StepOutcome :=
  .next (storeInstr 0x96 State.x (.zeroPageY zz) s)

/-! ### STY (R135) -/

/-- STY, zero page, 0x84 (R135, R86). -/
def execStyZp (zz : Byte) (s : State) : StepOutcome :=
  .next (storeInstr 0x84 State.y (.zeroPage zz) s)

/-- STY, absolute, 0x8C (R135, R90). -/
def execStyAbs (hhll : Word) (s : State) : StepOutcome :=
  .next (storeInstr 0x8C State.y (.absolute hhll) s)

/-- STY, zero page,X, 0x94 (R135, R87). -/
def execStyZpX (zz : Byte) (s : State) : StepOutcome :=
  .next (storeInstr 0x94 State.y (.zeroPageX zz) s)

/-! ### TAX (R136) -/

/-- TAX, implied, 0xAA (R136, R83). -/
def execTax (s : State) : StepOutcome :=
  .next (impliedInstr 0xAA (fun s => resultToX s.a s) s)

/-! ### TAY (R137) -/

/-- TAY, implied, 0xA8 (R137, R83). -/
def execTay (s : State) : StepOutcome :=
  .next (impliedInstr 0xA8 (fun s => resultToY s.a s) s)

/-! ### TXA (R138) -/

/-- TXA, implied, 0x8A (R138, R83). -/
def execTxa (s : State) : StepOutcome :=
  .next (impliedInstr 0x8A (fun s => resultToA s.x s) s)

/-! ### TYA (R139) -/

/-- TYA, implied, 0x98 (R139, R83). -/
def execTya (s : State) : StepOutcome :=
  .next (impliedInstr 0x98 (fun s => resultToA s.y s) s)

/-! ### TSX (R140) -/

/-- TSX, implied, 0xBA (R140, R83). -/
def execTsx (s : State) : StepOutcome :=
  .next (impliedInstr 0xBA (fun s => resultToX s.sp s) s)

/-! ### TXS (R141) -/

/-- TXS, implied, 0x9A (R141, R83). -/
def execTxs (s : State) : StepOutcome :=
  .next (impliedInstr 0x9A (fun s => s.setSP s.x) s)

end Sys2Proof.Machine
end

