-- ==== Sys2Proof/Machine/ShiftRotate.lean ====
section
/-! DEFINITION. The shift and rotate instructions (spec/43_shift_rotate.md R125-R129): ASL LSR ROL ROR, on A or on one byte of memory. -/

namespace Sys2Proof.Machine

/-- The result and flags of a shift (R125): C takes the bit shifted out, N and Z follow the result. -/
def shifted (shift : Byte → Bool → Byte × Bool) (v : Byte) (f : Flags) : Byte × Flags :=
  ((shift v f.c).1, (f.setC (shift v f.c).2).setNZ (shift v f.c).1)

/-! ### ASL (R126) -/

/-- ASL, zero page, 0x06 (R126, R86). -/
def execAslZp (zz : Byte) (s : State) : StepOutcome :=
  .next (modifyInstr 0x06 (shifted shiftAsl) (.memory (.zeroPage zz)) s)

/-- ASL, accumulator, 0x0A (R126, R84). -/
def execAslAcc (s : State) : StepOutcome :=
  .next (modifyInstr 0x0A (shifted shiftAsl) .accumulator s)

/-- ASL, absolute, 0x0E (R126, R90). -/
def execAslAbs (hhll : Word) (s : State) : StepOutcome :=
  .next (modifyInstr 0x0E (shifted shiftAsl) (.memory (.absolute hhll)) s)

/-- ASL, zero page,X, 0x16 (R126, R87). -/
def execAslZpX (zz : Byte) (s : State) : StepOutcome :=
  .next (modifyInstr 0x16 (shifted shiftAsl) (.memory (.zeroPageX zz)) s)

/-- ASL, absolute,X, 0x1E (R126, R91). -/
def execAslAbsX (hhll : Word) (s : State) : StepOutcome :=
  .next (modifyInstr 0x1E (shifted shiftAsl) (.memory (.absoluteX hhll)) s)

/-! ### LSR (R127) -/

/-- LSR, zero page, 0x46 (R127, R86). -/
def execLsrZp (zz : Byte) (s : State) : StepOutcome :=
  .next (modifyInstr 0x46 (shifted shiftLsr) (.memory (.zeroPage zz)) s)

/-- LSR, accumulator, 0x4A (R127, R84). -/
def execLsrAcc (s : State) : StepOutcome :=
  .next (modifyInstr 0x4A (shifted shiftLsr) .accumulator s)

/-- LSR, absolute, 0x4E (R127, R90). -/
def execLsrAbs (hhll : Word) (s : State) : StepOutcome :=
  .next (modifyInstr 0x4E (shifted shiftLsr) (.memory (.absolute hhll)) s)

/-- LSR, zero page,X, 0x56 (R127, R87). -/
def execLsrZpX (zz : Byte) (s : State) : StepOutcome :=
  .next (modifyInstr 0x56 (shifted shiftLsr) (.memory (.zeroPageX zz)) s)

/-- LSR, absolute,X, 0x5E (R127, R91). -/
def execLsrAbsX (hhll : Word) (s : State) : StepOutcome :=
  .next (modifyInstr 0x5E (shifted shiftLsr) (.memory (.absoluteX hhll)) s)

/-! ### ROL (R128) -/

/-- ROL, zero page, 0x26 (R128, R86). -/
def execRolZp (zz : Byte) (s : State) : StepOutcome :=
  .next (modifyInstr 0x26 (shifted shiftRol) (.memory (.zeroPage zz)) s)

/-- ROL, accumulator, 0x2A (R128, R84). -/
def execRolAcc (s : State) : StepOutcome :=
  .next (modifyInstr 0x2A (shifted shiftRol) .accumulator s)

/-- ROL, absolute, 0x2E (R128, R90). -/
def execRolAbs (hhll : Word) (s : State) : StepOutcome :=
  .next (modifyInstr 0x2E (shifted shiftRol) (.memory (.absolute hhll)) s)

/-- ROL, zero page,X, 0x36 (R128, R87). -/
def execRolZpX (zz : Byte) (s : State) : StepOutcome :=
  .next (modifyInstr 0x36 (shifted shiftRol) (.memory (.zeroPageX zz)) s)

/-- ROL, absolute,X, 0x3E (R128, R91). -/
def execRolAbsX (hhll : Word) (s : State) : StepOutcome :=
  .next (modifyInstr 0x3E (shifted shiftRol) (.memory (.absoluteX hhll)) s)

/-! ### ROR (R129) -/

/-- ROR, zero page, 0x66 (R129, R86). -/
def execRorZp (zz : Byte) (s : State) : StepOutcome :=
  .next (modifyInstr 0x66 (shifted shiftRor) (.memory (.zeroPage zz)) s)

/-- ROR, accumulator, 0x6A (R129, R84). -/
def execRorAcc (s : State) : StepOutcome :=
  .next (modifyInstr 0x6A (shifted shiftRor) .accumulator s)

/-- ROR, absolute, 0x6E (R129, R90). -/
def execRorAbs (hhll : Word) (s : State) : StepOutcome :=
  .next (modifyInstr 0x6E (shifted shiftRor) (.memory (.absolute hhll)) s)

/-- ROR, zero page,X, 0x76 (R129, R87). -/
def execRorZpX (zz : Byte) (s : State) : StepOutcome :=
  .next (modifyInstr 0x76 (shifted shiftRor) (.memory (.zeroPageX zz)) s)

/-- ROR, absolute,X, 0x7E (R129, R91). -/
def execRorAbsX (hhll : Word) (s : State) : StepOutcome :=
  .next (modifyInstr 0x7E (shifted shiftRor) (.memory (.absoluteX hhll)) s)

end Sys2Proof.Machine
end

