-- ==== Sys2Proof/Machine/System.lean ====
section
/-! DEFINITION. BRK and RTI (spec/47_system.md R175, R176). -/

namespace Sys2Proof.Machine

/-- BRK's effect (R175), in a state whose PC is past the opcode: skip the padding byte, which is not read (D12), then enter through
the IRQ/BRK vector with the Break bit 1. I does not mask it (D32). -/
def softwareInterrupt (s : State) : State := interruptEntry irqVector true (s.setPC (s.pc + 1))

/-! ### BRK (R175) -/

/-- BRK, implied, 0x00 (R175, R83). -/
def execBrk (s : State) : StepOutcome :=
  .next (impliedInstr 0x00 softwareInterrupt s)

/-! ### RTI (R176) -/

/-- RTI, implied, 0x40 (R176, R83). -/
def execRti (s : State) : StepOutcome :=
  .next (impliedInstr 0x40 returnFromInterrupt s)

end Sys2Proof.Machine
end

