-- ==== Sys2Proof/Machine/Events.lean ====
section
/-! DEFINITION. The events and errors of spec/60_exceptions.md R193, their codes and their vectors (R187). The codes are the spec's names
for a model's use; no program sees them (D36). -/

namespace Sys2Proof.Machine

/-- The rows of R193's table. -/
inductive Event where
  /-- The reset request serviced. -/
  | reset
  /-- The NMI request serviced. -/
  | nmi
  /-- The IRQ line serviced. -/
  | irq
  /-- Opcode 0x00 executed. -/
  | brk
  /-- A byte with no row fetched. -/
  | unmappedOpcode
  /-- A defective table row: unreachable (R192). -/
  | malformedMetadata
  /-- step() or reset() before powerOn(). -/
  | notPoweredOn
deriving DecidableEq, Repr

/-- The code of R193. -/
def Event.code : Event → Nat
  | .reset => 0
  | .nmi => 1
  | .irq => 2
  | .brk => 3
  | .unmappedOpcode => 4
  | .malformedMetadata => 5
  | .notPoweredOn => 6

/-- The vector an event enters through, if any (R187, R193). -/
def Event.vector : Event → Option Word
  | .reset => some resetVector
  | .nmi => some nmiVector
  | .irq => some irqVector
  | .brk => some irqVector
  | .unmappedOpcode => none
  | .malformedMetadata => none
  | .notPoweredOn => none

/-- The event a fault reports. -/
def Fault.event : Fault → Event
  | .unmappedOpcode _ _ _ => .unmappedOpcode

/-- The state the core is left in by a fault: the host may go on from it (R191). -/
def Fault.after : Fault → State
  | .unmappedOpcode _ _ after => after

end Sys2Proof.Machine
end

