-- ==== Sys2Proof/Machine/Driver.lean ====
section
/-! DEFINITION. The step driver (spec/60_exceptions.md R180-R191): the interrupt check and its services, then one fetch, decode and
execution. -/

namespace Sys2Proof.Machine

/-- A request a step can service (R182). -/
inductive Service where
  /-- Reset service (R183). -/
  | reset
  /-- NMI entry (R184). -/
  | nmi
  /-- IRQ entry (R185). -/
  | irq
deriving DecidableEq, Repr

/-- The event a service is (R193). -/
def Service.event : Service → Event
  | .reset => .reset
  | .nmi => .nmi
  | .irq => .irq

/-- Which request this step services (R182): Reset > NMI > IRQ, IRQ only when I is 0. -/
def selectService (s : State) : Option Service :=
  if s.resetReq then some .reset
  else if s.nmiReq then some .nmi
  else if s.irqLine && !s.flags.i then some .irq
  else none

/-- `ResetService()` (R183): no stack, no flag, no register but PC. -/
def resetService (s : State) : State := (s.setPC (read16 s resetVector)).setResetReq false

/-- `NmiEntry()` (R184). -/
def nmiEntry (s : State) : State := (interruptEntry nmiVector false s).setNmiReq false

/-- `IrqEntry()` (R185): the line is not written (D5). -/
def irqEntry (s : State) : State := interruptEntry irqVector false s

/-- Phase 1 of the step (R180): at most one service, 7 cycles for it (R228). -/
def serviceInterrupts (s : State) : State :=
  match selectService s with
  | some .reset => (resetService s).addCycles 7
  | some .nmi => (nmiEntry s).addCycles 7
  | some .irq => (irqEntry s).addCycles 7
  | none => s

/-- Phases 2 to 4 of the step (R180, R188-R191): the instruction at PC runs; a byte with no row is a fault that leaves PC past it and
adds no cycle (R191, R229). Three bytes are always enough for the decoder, so its only error here is an unmapped opcode. -/
def fetchDecodeExecute (s : State) : StepOutcome :=
  match decode s.params.admitted (fetchBytes s) with
  | .ok i _ => exec i s
  | .error _ => .fault (.unmappedOpcode (readByte s s.pc) s.pc (fetchOpcode s))

/-- `step()` (R180): refused before the first powerOn() (R213). -/
def runStep (s : State) : StepOutcome :=
  if s.powered then fetchDecodeExecute (serviceInterrupts s) else .refused .notPoweredOn

/-- Where the next step fetches its opcode: PC after the interrupt check (R180). -/
def nextFetch (s : State) : Word := (serviceInterrupts s).pc

/-- The instruction whose bits are `w` (bits from `nbits` up are 0) laid out in memory where the next step fetches: opcode byte, then
the operand bytes at rising addresses (30_encoding.md R65). -/
def placeInstruction (s : State) (nbits w : Nat) : State :=
  let at0 := nextFetch s
  let v := w % 2 ^ nbits
  let s1 := writeByte s at0 (BitVec.ofNat 8 v)
  let s2 := writeByte s1 (at0 + 1) (BitVec.ofNat 8 (v / 2 ^ 8))
  writeByte s2 (at0 + 2) (BitVec.ofNat 8 (v / 2 ^ 16))

end Sys2Proof.Machine
end

