-- ==== Sys2Proof/Machine/Step.lean ====
section
/-! DEFINITION. The step, and the state with an instruction placed where it fetches. -/

namespace Sys2Proof.Machine

/-- One call of `step()` (spec/60_exceptions.md R180). -/
def step (s : State) : Host.Outcome State Fault Refusal := runStep s

/-- `s` with the instruction of bits `w` stored where `step` fetches its next instruction (log entry 7). -/
def State.withFetchWord (s : State) (nbits w : Nat) : State := placeInstruction s nbits w

end Sys2Proof.Machine
end

