-- ==== Sys2Proof/Machine/HostCalls.lean ====
section
/-! DEFINITION. The core's public surface (spec/60_exceptions.md R199, R200): what the host can do between steps. -/

namespace Sys2Proof.Machine

/-- What `powerOn()` loads into PC, by `POWER_ON_PC_SOURCE` (R8, 70_reset_and_hazards.md R210). -/
def powerOnPC (s : State) : Word :=
  match s.params.powerOnPc with
  | .fixedC000 => 0xC000
  | .resetVector => read16 s resetVector

/-- `powerOn()` (R210): registers and flags at their power-on values, requests cleared; cycles and memory unchanged (D8, D18). -/
def powerOn (s : State) : State :=
  { s with
    pc := powerOnPC s, a := 0x00, x := 0x00, y := 0x00, sp := 0xFD
    flags := { n := false, v := false, d := false, i := true, z := false, c := false }
    resetReq := false, nmiReq := false, irqLine := false, pageCrossed := false, powered := true }

/-- `reset()` of a powered core (R211): SP - 3 with no stack write, I set, nothing else. -/
def warmReset (s : State) : State := (s.setSP (s.sp - 3)).setFlags (s.flags.setI true)

/-- `cycleCount() -> u64` (10_state.md R30, D17). -/
def cycleCount (s : State) : BitVec 64 := BitVec.ofNat 64 s.cycles

/-- What a call returns to the host (R199). -/
inductive HostResult where
  /-- Nothing. -/
  | nothing
  /-- `Ok(n)`: a step that added n cycles. -/
  | ok (n : Nat)
  /-- `Fault(UnmappedOpcode(opcode, a))`. -/
  | unmappedOpcode (opcode : Byte) (addr : Word)
  /-- The call is refused. -/
  | refused (r : Refusal)
  /-- The cycle counter as a u64. -/
  | count (n : BitVec 64)
  /-- A byte of memory the host reads. -/
  | byte (v : Byte)
deriving DecidableEq, Repr

/-- `step()` as the host sees it (R180, R191): its report, and the state the core is left in. After a fault the host may call again. -/
def hostStep (s : State) : HostResult × State :=
  match step s with
  | .next t => (.ok (t.cycles - s.cycles), t)
  | .fault (.unmappedOpcode opcode addr after) => (.unmappedOpcode opcode addr, after)
  | .refused r => (.refused r, s)

/-- The calls of R199, and the host's access to the memory it owns (R200). -/
inductive HostCall where
  /-- `powerOn()`. -/
  | powerOn
  /-- `reset()`. -/
  | reset
  /-- `step()` / `cycle()`. -/
  | step
  /-- `setReset()`. -/
  | setReset
  /-- `setNmi()`. -/
  | setNmi
  /-- `setIrq(level)`. -/
  | setIrq (level : Bool)
  /-- `cycleCount()`. -/
  | cycleCount
  /-- The host reads a byte of its memory. -/
  | readMemory (addr : Word)
  /-- The host writes a byte of its memory. -/
  | writeMemory (addr : Word) (v : Byte)
deriving DecidableEq, Repr

/-- One call between steps (R199): what it returns and the state after. -/
def hostCall (call : HostCall) (s : State) : HostResult × State :=
  match call with
  | .powerOn => (.nothing, powerOn s)
  | .reset => if s.powered then (.nothing, warmReset s) else (.refused .notPoweredOn, s)
  | .step => hostStep s
  | .setReset => (.nothing, s.setResetReq true)
  | .setNmi => (.nothing, s.setNmiReq true)
  | .setIrq level => (.nothing, s.setIrqLine level)
  | .cycleCount => (.count (cycleCount s), s)
  | .readMemory addr => (.byte (readByte s addr), s)
  | .writeMemory addr v => (.nothing, writeByte s addr v)

end Sys2Proof.Machine
end

