-- ==== Sys2Proof/Safety.lean ====
section
/-! DEFINITION. The terms claims use: the invariant of a powered machine, the end of a run (spec/60_exceptions.md R203), which instructions
write which register, flag and byte (10_state.md R22-R25, R36), and the rows a rule's encoding table gives. -/

namespace Sys2Proof

/-! ### Mnemonics -/

/-- The 56 mnemonics of R71. -/
inductive Mnemonic where
  | adc | sbc | and | ora | eor | cmp | cpx | cpy | bit | inc | dec | inx | iny | dex | dey
  | asl | lsr | rol | ror
  | lda | ldx | ldy | sta | stx | sty | tax | tay | txa | tya | tsx | txs
  | jmp | bcc | bcs | beq | bmi | bne | bpl | bvc | bvs | jsr | rts
  | clc | cld | cli | clv | sec | sed | sei | pha | php | pla | plp | nop
  | brk | rti
deriving DecidableEq, Repr

/-- The mnemonic of an instruction (R71). -/
def Instr.mnemonic (i : Instr) : Mnemonic :=
  match i with
  | .adcIndX _ | .adcZp _ | .adcImm _ | .adcAbs _ | .adcIndY _ | .adcZpX _ | .adcAbsY _ | .adcAbsX _ => .adc
  | .sbcIndX _ | .sbcZp _ | .sbcImm _ | .sbcAbs _ | .sbcIndY _ | .sbcZpX _ | .sbcAbsY _ | .sbcAbsX _ => .sbc
  | .andIndX _ | .andZp _ | .andImm _ | .andAbs _ | .andIndY _ | .andZpX _ | .andAbsY _ | .andAbsX _ => .and
  | .oraIndX _ | .oraZp _ | .oraImm _ | .oraAbs _ | .oraIndY _ | .oraZpX _ | .oraAbsY _ | .oraAbsX _ => .ora
  | .eorIndX _ | .eorZp _ | .eorImm _ | .eorAbs _ | .eorIndY _ | .eorZpX _ | .eorAbsY _ | .eorAbsX _ => .eor
  | .cmpIndX _ | .cmpZp _ | .cmpImm _ | .cmpAbs _ | .cmpIndY _ | .cmpZpX _ | .cmpAbsY _ | .cmpAbsX _ => .cmp
  | .cpxImm _ | .cpxZp _ | .cpxAbs _ => .cpx
  | .cpyImm _ | .cpyZp _ | .cpyAbs _ => .cpy
  | .bitZp _ | .bitAbs _ => .bit
  | .incZp _ | .incAbs _ | .incZpX _ | .incAbsX _ => .inc
  | .decZp _ | .decAbs _ | .decZpX _ | .decAbsX _ => .dec
  | .inx => .inx
  | .iny => .iny
  | .dex => .dex
  | .dey => .dey
  | .aslZp _ | .aslAcc | .aslAbs _ | .aslZpX _ | .aslAbsX _ => .asl
  | .lsrZp _ | .lsrAcc | .lsrAbs _ | .lsrZpX _ | .lsrAbsX _ => .lsr
  | .rolZp _ | .rolAcc | .rolAbs _ | .rolZpX _ | .rolAbsX _ => .rol
  | .rorZp _ | .rorAcc | .rorAbs _ | .rorZpX _ | .rorAbsX _ => .ror
  | .ldaIndX _ | .ldaZp _ | .ldaImm _ | .ldaAbs _ | .ldaIndY _ | .ldaZpX _ | .ldaAbsY _ | .ldaAbsX _ => .lda
  | .ldxImm _ | .ldxZp _ | .ldxAbs _ | .ldxZpY _ | .ldxAbsY _ => .ldx
  | .ldyImm _ | .ldyZp _ | .ldyAbs _ | .ldyZpX _ | .ldyAbsX _ => .ldy
  | .staIndX _ | .staZp _ | .staAbs _ | .staIndY _ | .staZpX _ | .staAbsY _ | .staAbsX _ => .sta
  | .stxZp _ | .stxAbs _ | .stxZpY _ => .stx
  | .styZp _ | .styAbs _ | .styZpX _ => .sty
  | .tax => .tax
  | .tay => .tay
  | .txa => .txa
  | .tya => .tya
  | .tsx => .tsx
  | .txs => .txs
  | .jmpAbs _ | .jmpInd _ => .jmp
  | .bcc _ => .bcc
  | .bcs _ => .bcs
  | .beq _ => .beq
  | .bmi _ => .bmi
  | .bne _ => .bne
  | .bpl _ => .bpl
  | .bvc _ => .bvc
  | .bvs _ => .bvs
  | .jsr _ => .jsr
  | .rts => .rts
  | .clc => .clc
  | .cld => .cld
  | .cli => .cli
  | .clv => .clv
  | .sec => .sec
  | .sed => .sed
  | .sei => .sei
  | .pha => .pha
  | .php => .php
  | .pla => .pla
  | .plp => .plp
  | .nop => .nop
  | .brk => .brk
  | .rti => .rti

/-! ### Who writes what -/

/-- The instructions that write A (10_state.md R22): the shifts and rotates only in accumulator mode. -/
def Instr.writesA (i : Instr) : Bool :=
  [Mnemonic.adc, .sbc, .and, .ora, .eor, .lda, .txa, .tya, .pla].contains i.mnemonic ||
    [Instr.aslAcc, .lsrAcc, .rolAcc, .rorAcc].contains i

/-- The instructions that write X (R23). -/
def Instr.writesX (i : Instr) : Bool := [Mnemonic.ldx, .tax, .tsx, .inx, .dex].contains i.mnemonic

/-- The instructions that write Y (R24). -/
def Instr.writesY (i : Instr) : Bool := [Mnemonic.ldy, .tay, .iny, .dey].contains i.mnemonic

/-- The instructions that write SP: TXS, and those that push or pop (R25, 41_stack.md). -/
def Instr.writesSP (i : Instr) : Bool :=
  [Mnemonic.txs, .pha, .php, .pla, .plp, .jsr, .rts, .brk, .rti].contains i.mnemonic

/-- The instructions that write C (R36). -/
def Instr.writesC (i : Instr) : Bool :=
  [Mnemonic.adc, .sbc, .cmp, .cpx, .cpy, .asl, .lsr, .rol, .ror, .clc, .sec, .plp, .rti].contains i.mnemonic

/-- The instructions that write Z; the same write N (R36). -/
def Instr.writesNZ (i : Instr) : Bool :=
  [Mnemonic.adc, .sbc, .and, .ora, .eor, .cmp, .cpx, .cpy, .bit, .inc, .dec, .inx, .iny, .dex, .dey, .asl, .lsr, .rol, .ror,
    .lda, .ldx, .ldy, .tax, .tay, .txa, .tya, .tsx, .pla, .plp, .rti].contains i.mnemonic

/-- The instructions that write V (R36). -/
def Instr.writesV (i : Instr) : Bool := [Mnemonic.adc, .sbc, .bit, .clv, .plp, .rti].contains i.mnemonic

/-- The instructions that write I (R36); BRK only when `ENTRY_SETS_I`. -/
def Instr.writesI (p : Params) (i : Instr) : Bool :=
  [Mnemonic.cli, .sei, .plp, .rti].contains i.mnemonic || (i.mnemonic == .brk && p.entrySetsI)

/-- The instructions that write D (R36). -/
def Instr.writesD (i : Instr) : Bool := [Mnemonic.cld, .sed, .plp, .rti].contains i.mnemonic

namespace Machine

/-- The mode of the memory operand an instruction stores to: STA, STX, STY and the memory forms of the read-modify-write
instructions (30_encoding.md R71). -/
def storePlace (i : Instr) : Option AddrMode :=
  match i with
  | .incZp zz => some (.zeroPage zz)
  | .incAbs hhll => some (.absolute hhll)
  | .incZpX zz => some (.zeroPageX zz)
  | .incAbsX hhll => some (.absoluteX hhll)
  | .decZp zz => some (.zeroPage zz)
  | .decAbs hhll => some (.absolute hhll)
  | .decZpX zz => some (.zeroPageX zz)
  | .decAbsX hhll => some (.absoluteX hhll)
  | .aslZp zz => some (.zeroPage zz)
  | .aslAbs hhll => some (.absolute hhll)
  | .aslZpX zz => some (.zeroPageX zz)
  | .aslAbsX hhll => some (.absoluteX hhll)
  | .lsrZp zz => some (.zeroPage zz)
  | .lsrAbs hhll => some (.absolute hhll)
  | .lsrZpX zz => some (.zeroPageX zz)
  | .lsrAbsX hhll => some (.absoluteX hhll)
  | .rolZp zz => some (.zeroPage zz)
  | .rolAbs hhll => some (.absolute hhll)
  | .rolZpX zz => some (.zeroPageX zz)
  | .rolAbsX hhll => some (.absoluteX hhll)
  | .rorZp zz => some (.zeroPage zz)
  | .rorAbs hhll => some (.absolute hhll)
  | .rorZpX zz => some (.zeroPageX zz)
  | .rorAbsX hhll => some (.absoluteX hhll)
  | .staIndX zz => some (.indirectX zz)
  | .staZp zz => some (.zeroPage zz)
  | .staAbs hhll => some (.absolute hhll)
  | .staIndY zz => some (.indirectY zz)
  | .staZpX zz => some (.zeroPageX zz)
  | .staAbsY hhll => some (.absoluteY hhll)
  | .staAbsX hhll => some (.absoluteX hhll)
  | .stxZp zz => some (.zeroPage zz)
  | .stxAbs hhll => some (.absolute hhll)
  | .stxZpY zz => some (.zeroPageY zz)
  | .styZp zz => some (.zeroPage zz)
  | .styAbs hhll => some (.absolute hhll)
  | .styZpX zz => some (.zeroPageX zz)
  | .adcIndX _ | .adcZp _ | .adcImm _ | .adcAbs _ | .adcIndY _ | .adcZpX _ | .adcAbsY _ | .adcAbsX _ | .sbcIndX _
  | .sbcZp _ | .sbcImm _ | .sbcAbs _ | .sbcIndY _ | .sbcZpX _ | .sbcAbsY _ | .sbcAbsX _ | .andIndX _ | .andZp _
  | .andImm _ | .andAbs _ | .andIndY _ | .andZpX _ | .andAbsY _ | .andAbsX _ | .oraIndX _ | .oraZp _ | .oraImm _
  | .oraAbs _ | .oraIndY _ | .oraZpX _ | .oraAbsY _ | .oraAbsX _ | .eorIndX _ | .eorZp _ | .eorImm _ | .eorAbs _
  | .eorIndY _ | .eorZpX _ | .eorAbsY _ | .eorAbsX _ | .cmpIndX _ | .cmpZp _ | .cmpImm _ | .cmpAbs _ | .cmpIndY _
  | .cmpZpX _ | .cmpAbsY _ | .cmpAbsX _ | .cpxImm _ | .cpxZp _ | .cpxAbs _ | .cpyImm _ | .cpyZp _ | .cpyAbs _
  | .bitZp _ | .bitAbs _ | .inx | .iny | .dex | .dey | .aslAcc | .lsrAcc | .rolAcc | .rorAcc | .ldaIndX _ | .ldaZp _
  | .ldaImm _ | .ldaAbs _ | .ldaIndY _ | .ldaZpX _ | .ldaAbsY _ | .ldaAbsX _ | .ldxImm _ | .ldxZp _ | .ldxAbs _
  | .ldxZpY _ | .ldxAbsY _ | .ldyImm _ | .ldyZp _ | .ldyAbs _ | .ldyZpX _ | .ldyAbsX _ | .tax | .tay | .txa | .tya
  | .tsx | .txs | .jmpAbs _ | .jmpInd _ | .bcc _ | .bcs _ | .beq _ | .bmi _ | .bne _ | .bpl _ | .bvc _ | .bvs _
  | .jsr _ | .rts | .clc | .cld | .cli | .clv | .sec | .sed | .sei | .pha | .php | .pla | .plp | .nop | .brk | .rti => none

/-- How many bytes an instruction pushes (R155, R167, R168, R175). -/
def pushCount (i : Instr) : Nat :=
  match i.mnemonic with
  | .pha => 1
  | .php => 1
  | .jsr => 2
  | .brk => 3
  | .adc | .sbc | .and | .ora | .eor | .cmp | .cpx | .cpy | .bit | .inc | .dec | .inx | .iny | .dex | .dey | .asl
  | .lsr | .rol | .ror | .lda | .ldx | .ldy | .sta | .stx | .sty | .tax | .tay | .txa | .tya | .tsx | .txs | .jmp
  | .bcc | .bcs | .beq | .bmi | .bne | .bpl | .bvc | .bvs | .rts | .clc | .cld | .cli | .clv | .sec | .sed | .sei
  | .pla | .plp | .nop | .rti => 0

/-- The addresses an instruction stores to from `s`, whose PC is at the opcode: the effective address the meaning computes, or the stack
slots from 0x0100 + SP down. -/
def storedAddrs (i : Instr) (s : State) : List Word :=
  match storePlace i with
  | some m => [effectiveAddr m (fetchOpcode s)]
  | none => (List.range (pushCount i)).map fun k => stackAddr (s.sp - BitVec.ofNat 8 k)

/-! ### The invariant -/

/-- What holds of a powered machine: its memory is in canonical form. -/
abbrev State.Inv (s : State) : Prop := s.mem.wf = true ∧ s.powered = true

/-! ### The end of a run -/

/-- A step that would begin at a `JMP` to its own address with no request to service (R203, rule 2). -/
def haltsHere (s : State) : Bool :=
  s.powered && (selectService s == none) &&
    (fetchBytes s == [0x4C, lowByte s.pc, highByte s.pc])

/-- How a run ends (R203). -/
inductive RunEnd where
  /-- A step reported an unmapped opcode. -/
  | faulted (f : Fault)
  /-- The run reached a self-jump. -/
  | halted (s : State)
  /-- The host stopped calling step. -/
  | cut (s : State)
  /-- A step was refused. -/
  | refused (r : Refusal)
deriving DecidableEq, Repr

/-- A run of at most `n` steps with no host call between them (R203). -/
def runToEnd : Nat → State → RunEnd
  | 0, s => if haltsHere s then .halted s else .cut s
  | n + 1, s =>
    if haltsHere s then .halted s
    else
      match step s with
      | .next t => runToEnd n t
      | .fault f => .faulted f
      | .refused r => .refused r

/-! ### Rows of a rule's encoding table -/

/-- One row: the instruction, its operand form, its bytes and its base cycles. -/
structure Row (α : Type) where
  /-- The instruction the row stands for. -/
  instr : Instr
  /-- Its operand form. -/
  operand : α
  /-- Its bytes in memory. -/
  bytes : List Byte
  /-- Its base cycles. -/
  base : Nat

/-- `Load(Resolve(mode))` in a state whose PC is at the opcode. -/
def operandOf (src : Source) (s : State) : Byte := (loadSource src (fetchOpcode s)).1

/-- Whether that resolution reports a page crossing. -/
def sourceCrossed (src : Source) (s : State) : Bool := (loadSource src (fetchOpcode s)).2.pageCrossed

/-- A reading instruction's state but for its result: PC past it, `page_crossed` written, base cycles and penalty added. -/
def readDone (r : Row Source) (s : State) : State :=
  { s with
    pc := s.pc + BitVec.ofNat 16 r.bytes.length
    pageCrossed := sourceCrossed r.operand s
    cycles := s.cycles + (r.base + (sourceCrossed r.operand s).toNat) }

/-- The effective address of a store or read-modify-write, in a state whose PC is at the opcode. -/
def placeOf (m : AddrMode) (s : State) : Word := effectiveAddr m (fetchOpcode s)

/-- A store's or read-modify-write's state but for its results: no penalty is added. -/
def placeDone (r : Row AddrMode) (s : State) : State :=
  { s with
    pc := s.pc + BitVec.ofNat 16 r.bytes.length
    pageCrossed := addrCrossed r.operand (fetchOpcode s)
    cycles := s.cycles + r.base }

/-- A one-byte instruction's state but for its results. -/
def aloneDone (base : Nat) (s : State) : State :=
  { s with pc := s.pc + 1, pageCrossed := false, cycles := s.cycles + base }

end Machine

end Sys2Proof
end

