-- ==== Sys2Proof/Certificates/Slice0/Obligations.lean ====
section
/-! DEFINITION. The statements for the provers, from the numbered rules of spec/. The rows of each rule's encoding table come first: a
statement over `Rows.adc b w` speaks of every form of ADC, with `b` its operand byte and `w` its operand word. -/

open Sys2Proof Sys2Proof.Machine

namespace Sys2Proof

/-- The encoding table of ADC's rule. -/
def Rows.adc (b : Byte) (w : Word) : List (Row Source) :=
  [
    ⟨.adcIndX b, .memory (.indirectX b), [0x61, b], 6⟩,
    ⟨.adcZp b, .memory (.zeroPage b), [0x65, b], 3⟩,
    ⟨.adcImm b, .immediate b, [0x69, b], 2⟩,
    ⟨.adcAbs w, .memory (.absolute w), [0x6D, lowByte w, highByte w], 4⟩,
    ⟨.adcIndY b, .memory (.indirectY b), [0x71, b], 5⟩,
    ⟨.adcZpX b, .memory (.zeroPageX b), [0x75, b], 4⟩,
    ⟨.adcAbsY w, .memory (.absoluteY w), [0x79, lowByte w, highByte w], 4⟩,
    ⟨.adcAbsX w, .memory (.absoluteX w), [0x7D, lowByte w, highByte w], 4⟩]

/-- The encoding table of SBC's rule. -/
def Rows.sbc (b : Byte) (w : Word) : List (Row Source) :=
  [
    ⟨.sbcIndX b, .memory (.indirectX b), [0xE1, b], 6⟩,
    ⟨.sbcZp b, .memory (.zeroPage b), [0xE5, b], 3⟩,
    ⟨.sbcImm b, .immediate b, [0xE9, b], 2⟩,
    ⟨.sbcAbs w, .memory (.absolute w), [0xED, lowByte w, highByte w], 4⟩,
    ⟨.sbcIndY b, .memory (.indirectY b), [0xF1, b], 5⟩,
    ⟨.sbcZpX b, .memory (.zeroPageX b), [0xF5, b], 4⟩,
    ⟨.sbcAbsY w, .memory (.absoluteY w), [0xF9, lowByte w, highByte w], 4⟩,
    ⟨.sbcAbsX w, .memory (.absoluteX w), [0xFD, lowByte w, highByte w], 4⟩]

/-- The encoding table of AND's rule. -/
def Rows.and (b : Byte) (w : Word) : List (Row Source) :=
  [
    ⟨.andIndX b, .memory (.indirectX b), [0x21, b], 6⟩,
    ⟨.andZp b, .memory (.zeroPage b), [0x25, b], 3⟩,
    ⟨.andImm b, .immediate b, [0x29, b], 2⟩,
    ⟨.andAbs w, .memory (.absolute w), [0x2D, lowByte w, highByte w], 4⟩,
    ⟨.andIndY b, .memory (.indirectY b), [0x31, b], 5⟩,
    ⟨.andZpX b, .memory (.zeroPageX b), [0x35, b], 4⟩,
    ⟨.andAbsY w, .memory (.absoluteY w), [0x39, lowByte w, highByte w], 4⟩,
    ⟨.andAbsX w, .memory (.absoluteX w), [0x3D, lowByte w, highByte w], 4⟩]

/-- The encoding table of ORA's rule. -/
def Rows.ora (b : Byte) (w : Word) : List (Row Source) :=
  [
    ⟨.oraIndX b, .memory (.indirectX b), [0x01, b], 6⟩,
    ⟨.oraZp b, .memory (.zeroPage b), [0x05, b], 3⟩,
    ⟨.oraImm b, .immediate b, [0x09, b], 2⟩,
    ⟨.oraAbs w, .memory (.absolute w), [0x0D, lowByte w, highByte w], 4⟩,
    ⟨.oraIndY b, .memory (.indirectY b), [0x11, b], 5⟩,
    ⟨.oraZpX b, .memory (.zeroPageX b), [0x15, b], 4⟩,
    ⟨.oraAbsY w, .memory (.absoluteY w), [0x19, lowByte w, highByte w], 4⟩,
    ⟨.oraAbsX w, .memory (.absoluteX w), [0x1D, lowByte w, highByte w], 4⟩]

/-- The encoding table of EOR's rule. -/
def Rows.eor (b : Byte) (w : Word) : List (Row Source) :=
  [
    ⟨.eorIndX b, .memory (.indirectX b), [0x41, b], 6⟩,
    ⟨.eorZp b, .memory (.zeroPage b), [0x45, b], 3⟩,
    ⟨.eorImm b, .immediate b, [0x49, b], 2⟩,
    ⟨.eorAbs w, .memory (.absolute w), [0x4D, lowByte w, highByte w], 4⟩,
    ⟨.eorIndY b, .memory (.indirectY b), [0x51, b], 5⟩,
    ⟨.eorZpX b, .memory (.zeroPageX b), [0x55, b], 4⟩,
    ⟨.eorAbsY w, .memory (.absoluteY w), [0x59, lowByte w, highByte w], 4⟩,
    ⟨.eorAbsX w, .memory (.absoluteX w), [0x5D, lowByte w, highByte w], 4⟩]

/-- The encoding table of CMP's rule. -/
def Rows.cmp (b : Byte) (w : Word) : List (Row Source) :=
  [
    ⟨.cmpIndX b, .memory (.indirectX b), [0xC1, b], 6⟩,
    ⟨.cmpZp b, .memory (.zeroPage b), [0xC5, b], 3⟩,
    ⟨.cmpImm b, .immediate b, [0xC9, b], 2⟩,
    ⟨.cmpAbs w, .memory (.absolute w), [0xCD, lowByte w, highByte w], 4⟩,
    ⟨.cmpIndY b, .memory (.indirectY b), [0xD1, b], 5⟩,
    ⟨.cmpZpX b, .memory (.zeroPageX b), [0xD5, b], 4⟩,
    ⟨.cmpAbsY w, .memory (.absoluteY w), [0xD9, lowByte w, highByte w], 4⟩,
    ⟨.cmpAbsX w, .memory (.absoluteX w), [0xDD, lowByte w, highByte w], 4⟩]

/-- The encoding table of CPX's rule. -/
def Rows.cpx (b : Byte) (w : Word) : List (Row Source) :=
  [
    ⟨.cpxImm b, .immediate b, [0xE0, b], 2⟩,
    ⟨.cpxZp b, .memory (.zeroPage b), [0xE4, b], 3⟩,
    ⟨.cpxAbs w, .memory (.absolute w), [0xEC, lowByte w, highByte w], 4⟩]

/-- The encoding table of CPY's rule. -/
def Rows.cpy (b : Byte) (w : Word) : List (Row Source) :=
  [
    ⟨.cpyImm b, .immediate b, [0xC0, b], 2⟩,
    ⟨.cpyZp b, .memory (.zeroPage b), [0xC4, b], 3⟩,
    ⟨.cpyAbs w, .memory (.absolute w), [0xCC, lowByte w, highByte w], 4⟩]

/-- The encoding table of BIT's rule. -/
def Rows.bit (b : Byte) (w : Word) : List (Row Source) :=
  [
    ⟨.bitZp b, .memory (.zeroPage b), [0x24, b], 3⟩,
    ⟨.bitAbs w, .memory (.absolute w), [0x2C, lowByte w, highByte w], 4⟩]

/-- The encoding table of LDA's rule. -/
def Rows.lda (b : Byte) (w : Word) : List (Row Source) :=
  [
    ⟨.ldaIndX b, .memory (.indirectX b), [0xA1, b], 6⟩,
    ⟨.ldaZp b, .memory (.zeroPage b), [0xA5, b], 3⟩,
    ⟨.ldaImm b, .immediate b, [0xA9, b], 2⟩,
    ⟨.ldaAbs w, .memory (.absolute w), [0xAD, lowByte w, highByte w], 4⟩,
    ⟨.ldaIndY b, .memory (.indirectY b), [0xB1, b], 5⟩,
    ⟨.ldaZpX b, .memory (.zeroPageX b), [0xB5, b], 4⟩,
    ⟨.ldaAbsY w, .memory (.absoluteY w), [0xB9, lowByte w, highByte w], 4⟩,
    ⟨.ldaAbsX w, .memory (.absoluteX w), [0xBD, lowByte w, highByte w], 4⟩]

/-- The encoding table of LDX's rule. -/
def Rows.ldx (b : Byte) (w : Word) : List (Row Source) :=
  [
    ⟨.ldxImm b, .immediate b, [0xA2, b], 2⟩,
    ⟨.ldxZp b, .memory (.zeroPage b), [0xA6, b], 3⟩,
    ⟨.ldxAbs w, .memory (.absolute w), [0xAE, lowByte w, highByte w], 4⟩,
    ⟨.ldxZpY b, .memory (.zeroPageY b), [0xB6, b], 4⟩,
    ⟨.ldxAbsY w, .memory (.absoluteY w), [0xBE, lowByte w, highByte w], 4⟩]

/-- The encoding table of LDY's rule. -/
def Rows.ldy (b : Byte) (w : Word) : List (Row Source) :=
  [
    ⟨.ldyImm b, .immediate b, [0xA0, b], 2⟩,
    ⟨.ldyZp b, .memory (.zeroPage b), [0xA4, b], 3⟩,
    ⟨.ldyAbs w, .memory (.absolute w), [0xAC, lowByte w, highByte w], 4⟩,
    ⟨.ldyZpX b, .memory (.zeroPageX b), [0xB4, b], 4⟩,
    ⟨.ldyAbsX w, .memory (.absoluteX w), [0xBC, lowByte w, highByte w], 4⟩]

/-- The encoding table of STA's rule. -/
def Rows.sta (b : Byte) (w : Word) : List (Row AddrMode) :=
  [
    ⟨.staIndX b, .indirectX b, [0x81, b], 6⟩,
    ⟨.staZp b, .zeroPage b, [0x85, b], 3⟩,
    ⟨.staAbs w, .absolute w, [0x8D, lowByte w, highByte w], 4⟩,
    ⟨.staIndY b, .indirectY b, [0x91, b], 6⟩,
    ⟨.staZpX b, .zeroPageX b, [0x95, b], 4⟩,
    ⟨.staAbsY w, .absoluteY w, [0x99, lowByte w, highByte w], 5⟩,
    ⟨.staAbsX w, .absoluteX w, [0x9D, lowByte w, highByte w], 5⟩]

/-- The encoding table of STX's rule. -/
def Rows.stx (b : Byte) (w : Word) : List (Row AddrMode) :=
  [
    ⟨.stxZp b, .zeroPage b, [0x86, b], 3⟩,
    ⟨.stxAbs w, .absolute w, [0x8E, lowByte w, highByte w], 4⟩,
    ⟨.stxZpY b, .zeroPageY b, [0x96, b], 4⟩]

/-- The encoding table of STY's rule. -/
def Rows.sty (b : Byte) (w : Word) : List (Row AddrMode) :=
  [
    ⟨.styZp b, .zeroPage b, [0x84, b], 3⟩,
    ⟨.styAbs w, .absolute w, [0x8C, lowByte w, highByte w], 4⟩,
    ⟨.styZpX b, .zeroPageX b, [0x94, b], 4⟩]

/-- The encoding table of INC's rule. -/
def Rows.inc (b : Byte) (w : Word) : List (Row AddrMode) :=
  [
    ⟨.incZp b, .zeroPage b, [0xE6, b], 5⟩,
    ⟨.incAbs w, .absolute w, [0xEE, lowByte w, highByte w], 6⟩,
    ⟨.incZpX b, .zeroPageX b, [0xF6, b], 6⟩,
    ⟨.incAbsX w, .absoluteX w, [0xFE, lowByte w, highByte w], 7⟩]

/-- The encoding table of DEC's rule. -/
def Rows.dec (b : Byte) (w : Word) : List (Row AddrMode) :=
  [
    ⟨.decZp b, .zeroPage b, [0xC6, b], 5⟩,
    ⟨.decAbs w, .absolute w, [0xCE, lowByte w, highByte w], 6⟩,
    ⟨.decZpX b, .zeroPageX b, [0xD6, b], 6⟩,
    ⟨.decAbsX w, .absoluteX w, [0xDE, lowByte w, highByte w], 7⟩]

/-- The memory rows of the encoding table of ASL's rule. -/
def Rows.asl (b : Byte) (w : Word) : List (Row AddrMode) :=
  [
    ⟨.aslZp b, .zeroPage b, [0x06, b], 5⟩,
    ⟨.aslAbs w, .absolute w, [0x0E, lowByte w, highByte w], 6⟩,
    ⟨.aslZpX b, .zeroPageX b, [0x16, b], 6⟩,
    ⟨.aslAbsX w, .absoluteX w, [0x1E, lowByte w, highByte w], 7⟩]

/-- The memory rows of the encoding table of LSR's rule. -/
def Rows.lsr (b : Byte) (w : Word) : List (Row AddrMode) :=
  [
    ⟨.lsrZp b, .zeroPage b, [0x46, b], 5⟩,
    ⟨.lsrAbs w, .absolute w, [0x4E, lowByte w, highByte w], 6⟩,
    ⟨.lsrZpX b, .zeroPageX b, [0x56, b], 6⟩,
    ⟨.lsrAbsX w, .absoluteX w, [0x5E, lowByte w, highByte w], 7⟩]

/-- The memory rows of the encoding table of ROL's rule. -/
def Rows.rol (b : Byte) (w : Word) : List (Row AddrMode) :=
  [
    ⟨.rolZp b, .zeroPage b, [0x26, b], 5⟩,
    ⟨.rolAbs w, .absolute w, [0x2E, lowByte w, highByte w], 6⟩,
    ⟨.rolZpX b, .zeroPageX b, [0x36, b], 6⟩,
    ⟨.rolAbsX w, .absoluteX w, [0x3E, lowByte w, highByte w], 7⟩]

/-- The memory rows of the encoding table of ROR's rule. -/
def Rows.ror (b : Byte) (w : Word) : List (Row AddrMode) :=
  [
    ⟨.rorZp b, .zeroPage b, [0x66, b], 5⟩,
    ⟨.rorAbs w, .absolute w, [0x6E, lowByte w, highByte w], 6⟩,
    ⟨.rorZpX b, .zeroPageX b, [0x76, b], 6⟩,
    ⟨.rorAbsX w, .absoluteX w, [0x7E, lowByte w, highByte w], 7⟩]

/-- The 105 byte values with no row in R71, as R72 lists them. -/
def unmappedBytes : List Byte :=
  [
    0x02, 0x03, 0x04, 0x07, 0x0B, 0x0C, 0x0F, 0x12, 0x13, 0x14, 0x17, 0x1A, 0x1B, 0x1C, 0x1F, 0x22, 0x23, 0x27,
    0x2B, 0x2F, 0x32, 0x33, 0x34, 0x37, 0x3A, 0x3B, 0x3C, 0x3F, 0x42, 0x43, 0x44, 0x47, 0x4B, 0x4F, 0x52, 0x53,
    0x54, 0x57, 0x5A, 0x5B, 0x5C, 0x5F, 0x62, 0x63, 0x64, 0x67, 0x6B, 0x6F, 0x72, 0x73, 0x74, 0x77, 0x7A, 0x7B,
    0x7C, 0x7F, 0x80, 0x82, 0x83, 0x87, 0x89, 0x8B, 0x8F, 0x92, 0x93, 0x97, 0x9B, 0x9C, 0x9E, 0x9F, 0xA3, 0xA7,
    0xAB, 0xAF, 0xB2, 0xB3, 0xB7, 0xBB, 0xBF, 0xC2, 0xC3, 0xC7, 0xCB, 0xCF, 0xD2, 0xD3, 0xD4, 0xD7, 0xDA, 0xDB,
    0xDC, 0xDF, 0xE2, 0xE3, 0xE7, 0xEB, 0xEF, 0xF2, 0xF3, 0xF4, 0xF7, 0xFA, 0xFB, 0xFC, 0xFF]

/-- The 20 opcode bytes R77 lists. -/
def namedBytes : List Byte :=
  [0x69, 0x65, 0x75, 0x6D, 0x7D, 0x79, 0x61, 0x71, 0x4C, 0x6C, 0x30, 0xD0, 0x10, 0x50, 0x70, 0x18, 0xD8, 0x58, 0xB8, 0x00]

end Sys2Proof

/-- For every powered state: when the bytes at PC, PC + 1 and PC + 2 (modulo 2^16, in that order), read after the
interrupt check, decode to a well-formed instruction i, step answers exec of i on the state after the interrupt
check; and where no request is selected the interrupt check leaves the state as it is. exec itself moves PC past the
instruction and adds its cycles; step adds nothing else. (derived: R180, R188, R189, R190, R65, R81) -/
def Obligations.StepRunsTheDecodedInstruction : Prop :=
  (∀ (s : State) (i : Instr) (rest : List Byte), s.powered = true →
      let u := serviceInterrupts s
      decode s.params.admitted [readByte u u.pc, readByte u (u.pc + 1), readByte u (u.pc + 2)] = .ok i rest →
      i.wellFormed s.params.admitted = true →
      step s = exec i u) ∧
  ∀ s : State, selectService s = none → serviceInterrupts s = s

/-- 69 40 is ADC #$40; BD F0 12 is LDA $12F0,X; 8D 00 02 is STA $0200; 46 40 is LSR $40; 6C FF 10 is JMP ($10FF); D0 E0
is BNE with offset E0; 08 is PHP; 40 is RTI. (derived: 30_encoding.md R71, R67) -/
def Obligations.WordsOfTheSpecDecode : Prop :=
  decode .official151 [0x69, 0x40] = .ok (.adcImm 0x40) [] ∧
  decode .official151 [0xBD, 0xF0, 0x12] = .ok (.ldaAbsX 0x12F0) [] ∧
  decode .official151 [0x8D, 0x00, 0x02] = .ok (.staAbs 0x0200) [] ∧
  decode .official151 [0x46, 0x40] = .ok (.lsrZp 0x40) [] ∧
  decode .official151 [0x6C, 0xFF, 0x10] = .ok (.jmpInd 0x10FF) [] ∧
  decode .official151 [0xD0, 0xE0] = .ok (.bne 0xE0) [] ∧
  decode .official151 [0x08] = .ok .php [] ∧
  decode .official151 [0x40] = .ok .rti []

/-- For every admitted set, every instruction i with any operand value and any bytes after it: if i is well formed,
decode of encode i followed by those bytes is i and those bytes; if i is not admitted, decode answers that its
opcode byte is unmapped. (derived: 30_encoding.md section 2 (R71), R65, R67, R76) -/
def Obligations.DecodeUndoesEncode : Prop :=
  ∀ (admitted : AdmittedOpcodes) (i : Instr) (rest : List Byte),
    if i.wellFormed admitted then decode admitted (encode i ++ rest) = .ok i rest
    else ∃ opcode operands, encode i = opcode :: operands ∧
      decode admitted (encode i ++ rest) = .error (.unmapped opcode)

/-- For every admitted set and every list of bytes: if decode answers instruction i with some bytes left over, then the
list is encode i followed by those bytes, and i is well formed. (derived: 30_encoding.md section 2 (R71), R65, R67,
R76) -/
def Obligations.EncodeUndoesDecode : Prop :=
  ∀ (admitted : AdmittedOpcodes) (bytes rest : List Byte) (i : Instr),
    decode admitted bytes = .ok i rest → bytes = encode i ++ rest ∧ i.wellFormed admitted = true

/-- For every opcode byte and any two bytes after it: under Official151 the decoder answers unmapped exactly for the 105
listed bytes and gives an instruction for every other; under DocNamed it answers unmapped exactly for the bytes
outside the 20 of R77. And fetching one of the unmapped bytes, in any powered state, raises the unmapped-opcode
fault with that byte and its address. That the fault carries the address is the spec's own addition, which R191
marks as its decision D16. (derived: R72, R77, R191, 92_eei_decisions.md D16) -/
def Obligations.UnmappedBytesAreRejected : Prop :=
  (∀ opcode b1 b2 : Byte,
    (if opcode ∈ unmappedBytes then decode .official151 [opcode, b1, b2] = .error (.unmapped opcode)
      else ∃ i rest, decode .official151 [opcode, b1, b2] = .ok i rest) ∧
    (if opcode ∈ namedBytes then ∃ i rest, decode .docNamed [opcode, b1, b2] = .ok i rest
      else decode .docNamed [opcode, b1, b2] = .error (.unmapped opcode))) ∧
  ∀ s : State, s.powered = true →
    let u := serviceInterrupts s
    (match s.params.admitted with
      | .official151 => readByte u u.pc ∈ unmappedBytes
      | .docNamed => readByte u u.pc ∉ namedBytes) →
    ∃ after, step s = .fault (.unmappedOpcode (readByte u u.pc) u.pc after)

/-- For every instruction: it is well formed under DocNamed exactly when the first byte of its encoding is one of the 20
bytes R77 lists. (stated: R77) -/
def Obligations.DocNamedInstructionsAreTheTwentyRows : Prop :=
  ∀ i : Instr, i.wellFormed .docNamed = true ↔
    ∃ opcode operands, encode i = opcode :: operands ∧ opcode ∈ namedBytes

/-- For every two instructions whose encodings start with the same byte: the encodings have the same length, between 1
and 3, and the instructions the same mnemonic. (derived: R66, R65) -/
def Obligations.OpcodeAloneFixesTheLength : Prop :=
  ∀ i j : Instr, (encode i).head? = (encode j).head? →
    (encode i).length = (encode j).length ∧ 1 ≤ (encode i).length ∧ (encode i).length ≤ 3 ∧
      i.mnemonic = j.mnemonic

/-- Each mode consumes one operand byte, clears page_crossed, changes nothing else, and gives the address zz, (zz + X)
mod 256 or (zz + Y) mod 256. (stated: R86, R87, R88) -/
def Obligations.ZeroPageModesWrapInPageZero : Prop :=
  ∀ (zz : Byte) (s : State),
    let after : State := { s with pc := s.pc + 1, pageCrossed := false }
    resolve (.zeroPage zz) s = (BitVec.ofNat 16 zz.toNat, after) ∧
    resolve (.zeroPageX zz) s = (BitVec.ofNat 16 ((zz.toNat + s.x.toNat) % 256), after) ∧
    resolve (.zeroPageY zz) s = (BitVec.ofNat 16 ((zz.toNat + s.y.toNat) % 256), after)

/-- Each mode consumes two operand bytes and changes nothing but PC and page_crossed. Absolute gives the operand word
and clears page_crossed; the indexed modes give (base + index) mod 2^16 and set page_crossed exactly when the high
byte of the sum differs from the high byte of the base. (stated: R90, R91, R92, R82) -/
def Obligations.AbsoluteModesTrackPageCrossing : Prop :=
  ∀ (hhll : Word) (s : State),
    let indexed : Byte → Word × State := fun index =>
      let ea := (hhll.toNat + index.toNat) % 65536
      (BitVec.ofNat 16 ea, { s with pc := s.pc + 2, pageCrossed := decide (hhll.toNat / 256 ≠ ea / 256) })
    resolve (.absolute hhll) s = (hhll, { s with pc := s.pc + 2, pageCrossed := false }) ∧
    resolve (.absoluteX hhll) s = indexed s.x ∧
    resolve (.absoluteY hhll) s = indexed s.y

/-- In a state whose PC is at the operand byte: base is PC + 1, the target is base plus the signed offset modulo 2^16,
PC becomes base, page_crossed is set exactly when base and target differ in their high byte, and nothing else
changes. (stated: R89) -/
def Obligations.RelativeTargetsFromTheNextInstruction : Prop :=
  ∀ (rr : Byte) (s : State),
    let base := (s.pc.toNat + 1) % 65536
    let target := (((base : Int) + rr.toInt) % 65536).toNat
    resolve (.relative rr) s =
      (BitVec.ofNat 16 target, { s with pc := BitVec.ofNat 16 base, pageCrossed := decide (base / 256 ≠ target / 256) })

/-- read16 gives the byte at addr plus 256 times the byte at (addr + 1) mod 2^16. The indirect mode consumes two operand
bytes, clears page_crossed, and gives the same except that a pointer whose low byte is 0xFF takes its high byte from
the start of the same page. That the ordinary read at 0xFFFF takes its high byte from 0x0000 is the spec's own
decision D11. (derived: R93, R52, R51, 92_eei_decisions.md D11) -/
def Obligations.IndirectReadsWithTheWrapDefect : Prop :=
  ∀ (ptr : Word) (s : State),
    (read16 s ptr).toNat =
      (readByte s ptr).toNat + 256 * (readByte s (BitVec.ofNat 16 ((ptr.toNat + 1) % 65536))).toNat ∧
    resolve (.indirect ptr) s =
      (joinBytes (readByte s (if ptr.toNat % 256 = 255 then BitVec.ofNat 16 (ptr.toNat - 255) else ptr + 1)) (readByte s ptr),
        { s with pc := s.pc + 2, pageCrossed := false })

/-- The pointer is at p = (zz + X) mod 256 for (Indirect,X), at zz for (Indirect),Y. Its low byte is at p, its high byte
at p + 1, or at (p + 1) mod 256 when ZP_PTR_WRAP. (Indirect),Y adds Y modulo 2^16 and sets page_crossed when the
high byte changes; (Indirect,X) clears it. One operand byte is consumed and nothing else changes. That ZP_PTR_WRAP
picks the place of the second byte is the spec's own decision D10 (log entry 13). (derived: R94, R95,
92_eei_decisions.md D10, 90_conflicts.md C8) -/
def Obligations.ZeroPagePointerModes : Prop :=
  ∀ (zz : Byte) (s : State),
    let pointer : Nat → Nat := fun p =>
      (readByte s (BitVec.ofNat 16 p)).toNat +
        256 * (readByte s (BitVec.ofNat 16 (if s.params.zpPtrWrap then (p + 1) % 256 else p + 1))).toNat
    let base := pointer zz.toNat
    let ea := (base + s.y.toNat) % 65536
    resolve (.indirectX zz) s =
      (BitVec.ofNat 16 (pointer ((zz.toNat + s.x.toNat) % 256)), { s with pc := s.pc + 1, pageCrossed := false }) ∧
    resolve (.indirectY zz) s =
      (BitVec.ofNat 16 ea, { s with pc := s.pc + 1, pageCrossed := decide (base / 256 ≠ ea / 256) })

/-- Every row of the ADC table, in every state: the bytes are the row's; the next state has A = (A + M + C) mod 256, C
set iff the sum exceeds 255, Z iff the stored value is 0, N iff it is at least 128, V iff A and M have the same sign
bit and the result the other; PC past the instruction; base cycles plus one on a page crossing; every other field,
all of memory included, unchanged. The choice of the standard wrap (D22) and of the classic V test (D21) are the
spec's own decisions, its resolutions of 90_conflicts.md C1 and C2. (derived: R106, 92_eei_decisions.md D21,
92_eei_decisions.md D22, 90_conflicts.md C1, 90_conflicts.md C2) -/
def Obligations.AdcAddsMemoryAndCarry : Prop :=
  ∀ (b : Byte) (w : Word) (s : State),
    (∀ r ∈ Rows.adc b w,
      encode r.instr = r.bytes ∧
      exec r.instr s = .next
        (let m := operandOf r.operand s
        let sum := s.a.toNat + m.toNat + s.flags.c.toNat
        { readDone r s with
          a := BitVec.ofNat 8 sum
          flags := { s.flags with
            c := decide (255 < sum)
            z := decide (sum % 256 = 0)
            n := decide (128 ≤ sum % 256)
            v := decide ((128 ≤ s.a.toNat ↔ 128 ≤ m.toNat) ∧ ¬(128 ≤ s.a.toNat ↔ 128 ≤ sum % 256)) } }))

/-- Every row of the SBC table, in every state: A = (A - M - (1 - C)) mod 256, C set iff A >= M + (1 - C), Z and N from
the stored value, V iff A and M have different sign bits and the result's differs from A's; PC past the instruction;
base cycles plus one on a page crossing; every other field, all of memory included, unchanged. (stated: R107) -/
def Obligations.SbcSubtractsMemoryAndBorrow : Prop :=
  ∀ (b : Byte) (w : Word) (s : State),
    (∀ r ∈ Rows.sbc b w,
      encode r.instr = r.bytes ∧
      exec r.instr s = .next
        (let m := operandOf r.operand s
        let borrow := 1 - s.flags.c.toNat
        let res := (256 + s.a.toNat - m.toNat + 256 - borrow) % 256
        { readDone r s with
          a := BitVec.ofNat 8 res
          flags := { s.flags with
            c := decide (m.toNat + borrow ≤ s.a.toNat)
            z := decide (res = 0)
            n := decide (128 ≤ res)
            v := decide (¬(128 ≤ s.a.toNat ↔ 128 ≤ m.toNat) ∧ ¬(128 ≤ s.a.toNat ↔ 128 ≤ res)) } }))

/-- Every row of the three tables, in every state: A is A and M, A or M, A xor M; Z iff it is 0; N is its bit 7; PC past
the instruction; base cycles plus one on a page crossing; every other field, all of memory included, unchanged.
(stated: R108, R109, R110) -/
def Obligations.LogicInstructionsWriteAandNZ : Prop :=
  ∀ (b : Byte) (w : Word) (s : State),
    (∀ r ∈ Rows.and b w,
      encode r.instr = r.bytes ∧
      exec r.instr s = .next
        (let m := operandOf r.operand s
        { readDone r s with
          a := s.a &&& m
          flags := { s.flags with z := decide (s.a &&& m = 0), n := (s.a &&& m).msb } })) ∧
    (∀ r ∈ Rows.ora b w,
      encode r.instr = r.bytes ∧
      exec r.instr s = .next
        (let m := operandOf r.operand s
        { readDone r s with
          a := s.a ||| m
          flags := { s.flags with z := decide (s.a ||| m = 0), n := (s.a ||| m).msb } })) ∧
    (∀ r ∈ Rows.eor b w,
      encode r.instr = r.bytes ∧
      exec r.instr s = .next
        (let m := operandOf r.operand s
        { readDone r s with
          a := s.a ^^^ m
          flags := { s.flags with z := decide (s.a ^^^ m = 0), n := (s.a ^^^ m).msb } }))

/-- Every row of the three tables, in every state: C set iff the register is at least M unsigned, Z iff it equals M, N
from bit 7 of (register - M) mod 256; V and every register unchanged; PC past the instruction; base cycles plus one
on a page crossing; every other field, all of memory included, unchanged. (stated: R111, R112, R113) -/
def Obligations.ComparesSetCarryOnGreaterOrEqual : Prop :=
  ∀ (b : Byte) (w : Word) (s : State),
    (∀ r ∈ Rows.cmp b w,
      encode r.instr = r.bytes ∧
      exec r.instr s = .next
        (let m := operandOf r.operand s
        { readDone r s with
          flags := { s.flags with
            c := decide (m.toNat ≤ s.a.toNat)
            z := decide (s.a = m)
            n := decide (128 ≤ (256 + s.a.toNat - m.toNat) % 256) } })) ∧
    (∀ r ∈ Rows.cpx b w,
      encode r.instr = r.bytes ∧
      exec r.instr s = .next
        (let m := operandOf r.operand s
        { readDone r s with
          flags := { s.flags with
            c := decide (m.toNat ≤ s.x.toNat)
            z := decide (s.x = m)
            n := decide (128 ≤ (256 + s.x.toNat - m.toNat) % 256) } })) ∧
    (∀ r ∈ Rows.cpy b w,
      encode r.instr = r.bytes ∧
      exec r.instr s = .next
        (let m := operandOf r.operand s
        { readDone r s with
          flags := { s.flags with
            c := decide (m.toNat ≤ s.y.toNat)
            z := decide (s.y = m)
            n := decide (128 ≤ (256 + s.y.toNat - m.toNat) % 256) } }))

/-- Every row of the BIT table, in every state: Z iff A and M have no common bit, N is bit 7 of M, V is bit 6 of M; PC
past the instruction; base cycles; every other field, all of memory included, unchanged. (stated: R114) -/
def Obligations.BitTestsMemoryAgainstA : Prop :=
  ∀ (b : Byte) (w : Word) (s : State),
    (∀ r ∈ Rows.bit b w,
      encode r.instr = r.bytes ∧
      exec r.instr s = .next
        (let m := operandOf r.operand s
        { readDone r s with
          flags := { s.flags with
            z := decide (s.a &&& m = 0), n := m.getLsbD 7, v := m.getLsbD 6 } }))

/-- Every row of the two tables, in every state: the byte at the effective address is replaced by itself plus (minus)
one modulo 256, Z iff the new byte is 0, N its bit 7; C and V unchanged; PC past the instruction; base cycles with
no penalty; every other field unchanged. (stated: R115, R116) -/
def Obligations.IncAndDecWriteTheByteBack : Prop :=
  ∀ (b : Byte) (w : Word) (s : State),
    (∀ r ∈ Rows.inc b w,
      encode r.instr = r.bytes ∧
      exec r.instr s = .next
        (let old := readByte s (placeOf r.operand s)
        let new : Byte := old + 1
        { placeDone r s with
          mem := (writeByte s (placeOf r.operand s) new).mem
          flags := { s.flags with z := decide (new = 0), n := new.msb } })) ∧
    (∀ r ∈ Rows.dec b w,
      encode r.instr = r.bytes ∧
      exec r.instr s = .next
        (let old := readByte s (placeOf r.operand s)
        let new : Byte := old - 1
        { placeDone r s with
          mem := (writeByte s (placeOf r.operand s) new).mem
          flags := { s.flags with z := decide (new = 0), n := new.msb } }))

/-- In every state: X or Y becomes itself plus or minus one modulo 256, Z iff the result is 0, N its bit 7; PC + 1,
page_crossed false, 2 cycles; every other field unchanged. (stated: R117, R118, R119, R120) -/
def Obligations.IndexIncrementsAndDecrementsWrap : Prop :=
  ∀ s : State,
    (encode .inx = [0xE8] ∧ exec .inx s = .next { aloneDone 2 s with x := s.x + 1, flags := { s.flags with z := decide (s.x + 1 = 0), n := (s.x + 1).msb } }) ∧
    (encode .iny = [0xC8] ∧ exec .iny s = .next { aloneDone 2 s with y := s.y + 1, flags := { s.flags with z := decide (s.y + 1 = 0), n := (s.y + 1).msb } }) ∧
    (encode .dex = [0xCA] ∧ exec .dex s = .next { aloneDone 2 s with x := s.x - 1, flags := { s.flags with z := decide (s.x - 1 = 0), n := (s.x - 1).msb } }) ∧
    (encode .dey = [0x88] ∧ exec .dey s = .next { aloneDone 2 s with y := s.y - 1, flags := { s.flags with z := decide (s.y - 1 = 0), n := (s.y - 1).msb } })

/-- Every row of the two tables, in every state: ASL gives twice the byte modulo 256 with C its old bit 7; LSR gives
half of it with C its old bit 0; Z iff the result is 0, N its bit 7; the result replaces A or the byte at the
effective address; PC past the instruction, base cycles, no penalty; every other field unchanged. (stated: R126,
R127) -/
def Obligations.AslAndLsrShiftByOne : Prop :=
  ∀ (b : Byte) (w : Word) (s : State),
    (∀ r ∈ Rows.asl b w,
      encode r.instr = r.bytes ∧
      exec r.instr s = .next
        (let old := (readByte s (placeOf r.operand s)).toNat
        let new : Byte := BitVec.ofNat 8 (old * 2)
        { placeDone r s with
          mem := (writeByte s (placeOf r.operand s) new).mem
          flags := { s.flags with c := decide (128 ≤ old), z := decide (new = 0), n := new.msb } })) ∧
    (encode .aslAcc = [0x0A] ∧
      exec .aslAcc s = .next
        (let old := s.a.toNat
        let new : Byte := BitVec.ofNat 8 (old * 2)
        { aloneDone 2 s with
          a := new
          flags := { s.flags with c := decide (128 ≤ old), z := decide (new = 0), n := new.msb } })) ∧
    (∀ r ∈ Rows.lsr b w,
      encode r.instr = r.bytes ∧
      exec r.instr s = .next
        (let old := (readByte s (placeOf r.operand s)).toNat
        let new : Byte := BitVec.ofNat 8 (old / 2)
        { placeDone r s with
          mem := (writeByte s (placeOf r.operand s) new).mem
          flags := { s.flags with c := decide (old % 2 = 1), z := decide (new = 0), n := new.msb } })) ∧
    (encode .lsrAcc = [0x4A] ∧
      exec .lsrAcc s = .next
        (let old := s.a.toNat
        let new : Byte := BitVec.ofNat 8 (old / 2)
        { aloneDone 2 s with
          a := new
          flags := { s.flags with c := decide (old % 2 = 1), z := decide (new = 0), n := new.msb } }))

/-- Every row of the two tables, in every state: ROL gives (twice the byte + old C) modulo 256 with C the old bit 7; ROR
gives half the byte + 128 times the old C with C the old bit 0; Z iff the result is 0, N its bit 7; the result
replaces A or the byte at the effective address; PC past the instruction, base cycles, no penalty; every other field
unchanged. (stated: R128, R129) -/
def Obligations.RolAndRorRotateThroughCarry : Prop :=
  ∀ (b : Byte) (w : Word) (s : State),
    (∀ r ∈ Rows.rol b w,
      encode r.instr = r.bytes ∧
      exec r.instr s = .next
        (let old := (readByte s (placeOf r.operand s)).toNat
        let new : Byte := BitVec.ofNat 8 (old * 2 + s.flags.c.toNat)
        { placeDone r s with
          mem := (writeByte s (placeOf r.operand s) new).mem
          flags := { s.flags with c := decide (128 ≤ old), z := decide (new = 0), n := new.msb } })) ∧
    (encode .rolAcc = [0x2A] ∧
      exec .rolAcc s = .next
        (let old := s.a.toNat
        let new : Byte := BitVec.ofNat 8 (old * 2 + s.flags.c.toNat)
        { aloneDone 2 s with
          a := new
          flags := { s.flags with c := decide (128 ≤ old), z := decide (new = 0), n := new.msb } })) ∧
    (∀ r ∈ Rows.ror b w,
      encode r.instr = r.bytes ∧
      exec r.instr s = .next
        (let old := (readByte s (placeOf r.operand s)).toNat
        let new : Byte := BitVec.ofNat 8 (old / 2 + 128 * s.flags.c.toNat)
        { placeDone r s with
          mem := (writeByte s (placeOf r.operand s) new).mem
          flags := { s.flags with c := decide (old % 2 = 1), z := decide (new = 0), n := new.msb } })) ∧
    (encode .rorAcc = [0x6A] ∧
      exec .rorAcc s = .next
        (let old := s.a.toNat
        let new : Byte := BitVec.ofNat 8 (old / 2 + 128 * s.flags.c.toNat)
        { aloneDone 2 s with
          a := new
          flags := { s.flags with c := decide (old % 2 = 1), z := decide (new = 0), n := new.msb } }))

/-- From every state, nine executions of ROL A (or of ROR A), one after another, answer next states throughout, and the
last has the first's A and C, PC nine further and 18 cycles more, with X, Y, SP, V, D, I and memory unchanged.
(derived: R128, 43_shift_rotate.md) -/
def Obligations.NineRotationsRestoreByteAndCarry : Prop :=
  ∀ s : State, ∀ i ∈ [Instr.rolAcc, Instr.rorAcc],
    ∃ t, Nat.repeat (fun o => match o with
        | .next u => exec i u
        | other => other) 9 (Host.Outcome.next s : StepOutcome) = .next t ∧
      t.a = s.a ∧ t.flags.c = s.flags.c ∧ t.pc = s.pc + 9 ∧ t.cycles = s.cycles + 18 ∧
      t.x = s.x ∧ t.y = s.y ∧ t.sp = s.sp ∧ t.flags.v = s.flags.v ∧ t.flags.d = s.flags.d ∧
      t.flags.i = s.flags.i ∧ t.mem = s.mem

/-- Every row of the three tables, in every state: the register becomes the operand, Z iff it is 0, N its bit 7; PC past
the instruction; base cycles plus one on a page crossing; every other field, all of memory included, unchanged.
(stated: R130, R131, R132) -/
def Obligations.LoadsWriteTheRegisterAndNZ : Prop :=
  ∀ (b : Byte) (w : Word) (s : State),
    (∀ r ∈ Rows.lda b w,
      encode r.instr = r.bytes ∧
      exec r.instr s = .next
        (let m := operandOf r.operand s
        { readDone r s with
          a := m
          flags := { s.flags with z := decide (m = 0), n := m.msb } })) ∧
    (∀ r ∈ Rows.ldx b w,
      encode r.instr = r.bytes ∧
      exec r.instr s = .next
        (let m := operandOf r.operand s
        { readDone r s with
          x := m
          flags := { s.flags with z := decide (m = 0), n := m.msb } })) ∧
    (∀ r ∈ Rows.ldy b w,
      encode r.instr = r.bytes ∧
      exec r.instr s = .next
        (let m := operandOf r.operand s
        { readDone r s with
          y := m
          flags := { s.flags with z := decide (m = 0), n := m.msb } }))

/-- Every row of the three tables, in every state: the byte at the effective address becomes the register; no register
and no flag changes; PC past the instruction; base cycles with no penalty; every other field unchanged. (stated:
R133, R134, R135) -/
def Obligations.StoresWriteOneByteAndNoFlag : Prop :=
  ∀ (b : Byte) (w : Word) (s : State),
    (∀ r ∈ Rows.sta b w,
      encode r.instr = r.bytes ∧
      exec r.instr s = .next
        { placeDone r s with mem := (writeByte s (placeOf r.operand s) s.a).mem }) ∧
    (∀ r ∈ Rows.stx b w,
      encode r.instr = r.bytes ∧
      exec r.instr s = .next
        { placeDone r s with mem := (writeByte s (placeOf r.operand s) s.x).mem }) ∧
    (∀ r ∈ Rows.sty b w,
      encode r.instr = r.bytes ∧
      exec r.instr s = .next
        { placeDone r s with mem := (writeByte s (placeOf r.operand s) s.y).mem })

/-- In every state: the destination takes the source; N and Z follow it, except that TXS writes no flag; PC + 1,
page_crossed false, 2 cycles; every other field unchanged. (stated: R136, R137, R138, R139, R140, R141) -/
def Obligations.TransfersCopyARegister : Prop :=
  ∀ s : State,
    (encode .tax = [0xAA] ∧ exec .tax s = .next { aloneDone 2 s with x := s.a, flags := { s.flags with z := decide (s.a = 0), n := s.a.msb } }) ∧
    (encode .tay = [0xA8] ∧ exec .tay s = .next { aloneDone 2 s with y := s.a, flags := { s.flags with z := decide (s.a = 0), n := s.a.msb } }) ∧
    (encode .txa = [0x8A] ∧ exec .txa s = .next { aloneDone 2 s with a := s.x, flags := { s.flags with z := decide (s.x = 0), n := s.x.msb } }) ∧
    (encode .tya = [0x98] ∧ exec .tya s = .next { aloneDone 2 s with a := s.y, flags := { s.flags with z := decide (s.y = 0), n := s.y.msb } }) ∧
    (encode .tsx = [0xBA] ∧ exec .tsx s = .next { aloneDone 2 s with x := s.sp, flags := { s.flags with z := decide (s.sp = 0), n := s.sp.msb } }) ∧
    (encode .txs = [0x9A] ∧ exec .txs s = .next { aloneDone 2 s with sp := s.x })

/-- In every state: PC becomes the operand word (4C) or the word read at it with the pointer-wrap defect (6C);
page_crossed false; 3 or 5 cycles; every other field unchanged. (stated: R145) -/
def Obligations.JmpSetsPcToTheResolvedAddress : Prop :=
  ∀ (w : Word) (s : State),
    encode (.jmpAbs w) = [0x4C, lowByte w, highByte w] ∧
    exec (.jmpAbs w) s = .next { s with pc := w, pageCrossed := false, cycles := s.cycles + 3 } ∧
    encode (.jmpInd w) = [0x6C, lowByte w, highByte w] ∧
    exec (.jmpInd w) s = .next
      { s with
        pc := joinBytes (readByte s (if lowByte w = 0xFF then w &&& 0xFF00 else w + 1)) (readByte s w)
        pageCrossed := false, cycles := s.cycles + 5 }

/-- For each branch at PC with offset byte rr, in every state: if its flag has the tested value PC becomes (PC + 2 +
signed offset) mod 2^16 and 3 cycles are added, 4 when the target lies in another page than PC + 2; otherwise PC
becomes PC + 2 and 2 cycles are added; page_crossed is the page test; every other field unchanged. That a branch not
taken leaves the page test of its target in page_crossed too is the model's deduction from R32, R80, R146 and
decision D27 (log entry 15, DEDUCED). (derived: R146, R147, R148, R149, R150, R151, R152, R153, R154, R32,
92_eei_decisions.md D27, log entry 15) -/
def Obligations.BranchesTestTheirFlag : Prop :=
  ∀ (b : Byte) (s : State),
    let next := s.pc + 2
    let target := next + b.signExtend 16
    let far := decide (next.toNat / 256 ≠ target.toNat / 256)
    ∀ r ∈ [
      (Instr.bcc b, [0x90, b], !s.flags.c),
      (Instr.bcs b, [0xB0, b], s.flags.c),
      (Instr.beq b, [0xF0, b], s.flags.z),
      (Instr.bmi b, [0x30, b], s.flags.n),
      (Instr.bne b, [0xD0, b], !s.flags.z),
      (Instr.bpl b, [0x10, b], !s.flags.n),
      (Instr.bvc b, [0x50, b], !s.flags.v),
      (Instr.bvs b, [0x70, b], s.flags.v)],
      encode r.1 = r.2.1 ∧
      exec r.1 s = .next
        (if r.2.2 = true then
          { s with pc := target, pageCrossed := far, cycles := s.cycles + (if far = true then 4 else 3) }
        else { s with pc := next, pageCrossed := far, cycles := s.cycles + 2 })

/-- In every state: the next state has the high and low byte of the address of the instruction's last byte at 0x0100 +
SP and the slot below, SP - 2, PC the target, page_crossed false, 6 cycles more; every other byte of memory and
every other field is unchanged. That the target is read before the pushes, even where they overwrite it, is the
spec's own decision D13. (derived: R155, 92_eei_decisions.md D13) -/
def Obligations.JsrPushesTheAddressOfItsLastByte : Prop :=
  ∀ (w : Word) (s : State),
    encode (.jsr w) = [0x20, lowByte w, highByte w] ∧
    ∃ t, exec (.jsr w) s = .next t ∧
      t = { s with pc := w, sp := s.sp - 2, pageCrossed := false, cycles := s.cycles + 6, mem := t.mem } ∧
      readByte t (stackAddr s.sp) = highByte (s.pc + 2) ∧
      readByte t (stackAddr (s.sp - 1)) = lowByte (s.pc + 2) ∧
      ∀ a : Word, a ≠ stackAddr s.sp → a ≠ stackAddr (s.sp - 1) → readByte t a = readByte s a

/-- In every state: PC becomes the word whose low byte is at 0x0100 + (SP + 1) and high byte at 0x0100 + (SP + 2), plus
one modulo 2^16; SP + 2, page_crossed false, 6 cycles; every other field, all of memory included, unchanged.
(stated: R156) -/
def Obligations.RtsReturnsPastThePoppedAddress : Prop :=
  ∀ s : State,
    encode .rts = [0x60] ∧
    exec .rts s = .next
      { s with
        pc := joinBytes (readByte s (stackAddr (s.sp + 2))) (readByte s (stackAddr (s.sp + 1))) + 1
        sp := s.sp + 2, pageCrossed := false, cycles := s.cycles + 6 }

/-- For every state s and target: if JSR answers t, and u is any state with t's SP and t's two pushed bytes, then RTS
from u answers a state with PC three past the JSR's address and SP as before the JSR. (derived: R155, R156,
41_stack.md R103) -/
def Obligations.RtsAfterJsrReturnsToTheNextInstruction : Prop :=
  ∀ (w : Word) (s t u : State), exec (.jsr w) s = .next t → u.sp = t.sp →
    readByte u (stackAddr s.sp) = readByte t (stackAddr s.sp) →
    readByte u (stackAddr (s.sp - 1)) = readByte t (stackAddr (s.sp - 1)) →
    exec .rts u = .next { u with pc := s.pc + 3, sp := s.sp, pageCrossed := false, cycles := u.cycles + 6 }

/-- In every state: the named flag becomes 0 or 1 and no other flag changes; NOP changes none; PC + 1, page_crossed
false, 2 cycles; every other field unchanged. The corner cases of CLD, CLI, SED and SEI are the spec's decisions D2
and D24; DecimalFlagAffectsNoOtherState speaks of D, ServicePriorityIsResetNmiIrq of when I is seen. (derived: R160,
R161, R162, R163, R164, R165, R166, R171) -/
def Obligations.FlagInstructionsWriteOneFlag : Prop :=
  ∀ s : State,
    (encode .clc = [0x18] ∧ exec .clc s = .next { aloneDone 2 s with flags := { s.flags with c := false } }) ∧
    (encode .cld = [0xD8] ∧ exec .cld s = .next { aloneDone 2 s with flags := { s.flags with d := false } }) ∧
    (encode .cli = [0x58] ∧ exec .cli s = .next { aloneDone 2 s with flags := { s.flags with i := false } }) ∧
    (encode .clv = [0xB8] ∧ exec .clv s = .next { aloneDone 2 s with flags := { s.flags with v := false } }) ∧
    (encode .sec = [0x38] ∧ exec .sec s = .next { aloneDone 2 s with flags := { s.flags with c := true } }) ∧
    (encode .sed = [0xF8] ∧ exec .sed s = .next { aloneDone 2 s with flags := { s.flags with d := true } }) ∧
    (encode .sei = [0x78] ∧ exec .sei s = .next { aloneDone 2 s with flags := { s.flags with i := true } }) ∧
    (encode .nop = [0xEA] ∧ exec .nop s = .next (aloneDone 2 s))

/-- In every state: PHA writes A, PHP the byte N V 1 1 D I Z C, at 0x0100 + SP; SP - 1, PC + 1, page_crossed false, 3
cycles; every other field unchanged. That PHP pushes the Break bit as 1 is the spec's decision D6. (derived: R167,
R168, R27, 92_eei_decisions.md D6) -/
def Obligations.PhaAndPhpPushOneByte : Prop :=
  ∀ s : State,
    let status : Byte := BitVec.ofNat 8
      (128 * s.flags.n.toNat + 64 * s.flags.v.toNat + 32 + 16 + 8 * s.flags.d.toNat + 4 * s.flags.i.toNat +
        2 * s.flags.z.toNat + s.flags.c.toNat)
    encode .pha = [0x48] ∧
    exec .pha s = .next { aloneDone 3 s with sp := s.sp - 1, mem := (writeByte s (stackAddr s.sp) s.a).mem } ∧
    encode .php = [0x08] ∧
    exec .php s = .next { aloneDone 3 s with sp := s.sp - 1, mem := (writeByte s (stackAddr s.sp) status).mem }

/-- In every state, with v the byte at 0x0100 + (SP + 1): PLA makes A v, Z iff v is 0, N its bit 7; PLP makes N V D I Z
C bits 7 6 3 2 1 0 of v; SP + 1, PC + 1, page_crossed false, 4 cycles; every other field, all of memory included,
unchanged. That bits 5 and 4 have no storage is the spec's decision D6. (derived: R169, R170, R28,
92_eei_decisions.md D6) -/
def Obligations.PlaAndPlpPullOneByte : Prop :=
  ∀ s : State,
    let v := readByte s (stackAddr (s.sp + 1))
    encode .pla = [0x68] ∧
    exec .pla s = .next
      { aloneDone 4 s with sp := s.sp + 1, a := v, flags := { s.flags with z := decide (v = 0), n := v.msb } } ∧
    encode .plp = [0x28] ∧
    exec .plp s = .next
      { aloneDone 4 s with
        sp := s.sp + 1
        flags := { n := v.getLsbD 7, v := v.getLsbD 6, d := v.getLsbD 3, i := v.getLsbD 2, z := v.getLsbD 1, c := v.getLsbD 0 } }

/-- In every state, I set or clear: the next state has PC + 2 (high, low) and the status byte with Break 1 at the three
slots from 0x0100 + SP down, SP - 3, PC the word at 0xFFFE, I set when ENTRY_SETS_I and no other flag changed,
page_crossed false, 7 cycles; every other byte of memory and every other field unchanged. Setting I (D4) and not
masking BRK (D32) are the spec's decisions. (derived: R175, 92_eei_decisions.md D4, 92_eei_decisions.md D32) -/
def Obligations.BrkEntersThroughTheIrqVector : Prop :=
  ∀ s : State,
    encode .brk = [0x00] ∧
    ∃ t, exec .brk s = .next t ∧
      t = { s with
        pc := read16 s 0xFFFE, sp := s.sp - 3, pageCrossed := false, cycles := s.cycles + 7, mem := t.mem
        flags := { s.flags with i := s.flags.i || s.params.entrySetsI } } ∧
      readByte t (stackAddr s.sp) = highByte (s.pc + 2) ∧
      readByte t (stackAddr (s.sp - 1)) = lowByte (s.pc + 2) ∧
      readByte t (stackAddr (s.sp - 2)) = statusByte true s.flags ∧
      ∀ a : Word, a ≠ stackAddr s.sp → a ≠ stackAddr (s.sp - 1) → a ≠ stackAddr (s.sp - 2) →
        readByte t a = readByte s a

/-- In every state: N V D I Z C become bits 7 6 3 2 1 0 of the byte at 0x0100 + (SP + 1), PC the word at the next two
slots (low, high), SP + 3, page_crossed false, 6 cycles; every other field, all of memory included, unchanged. That
bits 5 and 4 have no storage is the spec's own decision D6. (derived: R176, R28, 92_eei_decisions.md D6) -/
def Obligations.RtiRestoresFlagsAndPc : Prop :=
  ∀ s : State,
    let v := readByte s (stackAddr (s.sp + 1))
    encode .rti = [0x40] ∧
    exec .rti s = .next
      { s with
        pc := joinBytes (readByte s (stackAddr (s.sp + 3))) (readByte s (stackAddr (s.sp + 2)))
        sp := s.sp + 3
        flags := { n := v.getLsbD 7, v := v.getLsbD 6, d := v.getLsbD 3, i := v.getLsbD 2, z := v.getLsbD 1, c := v.getLsbD 0 }
        pageCrossed := false, cycles := s.cycles + 6 }

/-- For every state s, vector and Break value: from any state u whose SP is s.SP - 3 and whose three frame bytes are
those the interrupt entry left, RTI answers u with PC, SP and the flags (I as before the entry) of s. This
formalises the sentence R177 marks as derived. (derived: R177, R186, R176) -/
def Obligations.RtiUndoesAnInterruptEntry : Prop :=
  ∀ (vec : Word) (brk : Bool) (s u : State), u.sp = s.sp - 3 →
    (∀ k ∈ [0, 1, 2], readByte u (stackAddr (s.sp - BitVec.ofNat 8 k)) =
      readByte (interruptEntry vec brk s) (stackAddr (s.sp - BitVec.ofNat 8 k))) →
    exec .rti u = .next
      { u with pc := s.pc, sp := s.sp, flags := s.flags, pageCrossed := false, cycles := u.cycles + 6 }

/-- For every state, address and value, whatever form the memory list has: reading the written address gives the value,
reading any other gives what it held, and no field but memory changes. (stated: R49, R50) -/
def Obligations.WritesChangeOneByte : Prop :=
  ∀ (s : State) (a : Word) (v : Byte),
    readByte (writeByte s a v) a = v ∧
    (∀ a' : Word, a' ≠ a → readByte (writeByte s a v) a' = readByte s a') ∧
    writeByte s a v = { s with mem := (writeByte s a v).mem }

/-- For every flags and Break value the status byte is 128 N + 64 V + 32 + 16 b + 8 D + 4 I + 2 Z + C; loading the flags
from it gives the same flags; for every byte v, the status byte of the flags loaded from v has v's bits but bit 5
set and bit 4 equal to b. That B and bit 5 have no storage is the spec's decision D6. (derived: R27, R28, R26,
92_eei_decisions.md D6) -/
def Obligations.StatusByteLayout : Prop :=
  ∀ (b : Bool) (f : Flags) (v : Byte),
    (statusByte b f).toNat = 128 * f.n.toNat + 64 * f.v.toNat + 32 + 16 * b.toNat + 8 * f.d.toNat +
      4 * f.i.toNat + 2 * f.z.toNat + f.c.toNat ∧
    flagsOfByte (statusByte b f) = f ∧
    statusByte b (flagsOfByte v) = (v &&& 0xCF) ||| 0x20 ||| (if b = true then 0x10 else 0x00)

/-- For every state: Push(v) puts v at 0x0100 + SP, makes SP - 1 mod 256 and changes no other byte and no other field;
Pop reads at 0x0100 + (SP + 1 mod 256) and changes SP alone; Push16 puts the high byte at 0x0100 + SP and the low
byte in the slot below; Pop16 after Push16 gives the word back with SP restored; every byte outside 0x0100 to 0x01FF
is unchanged (R104). Pop16 after Push16 is the sentence R103 marks as derived; Pop after Push is the like inference
from R100 and R101. (derived: R100, R101, R102, R103, R104) -/
def Obligations.PopUndoesPushWithinTheStackPage : Prop :=
  ∀ (v : Byte) (w : Word) (s : State),
    (push v s).sp.toNat = (s.sp.toNat + 255) % 256 ∧
    push v s = { s with sp := (push v s).sp, mem := (push v s).mem } ∧
    readByte (push v s) (BitVec.ofNat 16 (256 + s.sp.toNat)) = v ∧
    (∀ a : Word, a.toNat ≠ 256 + s.sp.toNat → readByte (push v s) a = readByte s a) ∧
    pop s = (readByte s (BitVec.ofNat 16 (256 + (s.sp.toNat + 1) % 256)), { s with sp := s.sp + 1 }) ∧
    readByte (push16 w s) (stackAddr s.sp) = highByte w ∧
    readByte (push16 w s) (stackAddr (s.sp - 1)) = lowByte w ∧
    pop (push v s) = (v, { s with mem := (push v s).mem }) ∧
    pop16 (push16 w s) = (w, { s with mem := (push16 w s).mem }) ∧
    ∀ a : Word, a.toNat < 256 ∨ 511 < a.toNat → readByte (push16 w s) a = readByte s a

/-- In every state the selected service is the one of R182's table; and after the interrupt check a request is cleared
exactly when it was the one serviced (the IRQ line never). That lower-priority requests stay pending (D25) and that
the IRQ line is a level the core never clears (D5, log entry 13) are the spec's own decisions. (derived: R182, R183,
R184, R185, 92_eei_decisions.md D5, 92_eei_decisions.md D25) -/
def Obligations.ServicePriorityIsResetNmiIrq : Prop :=
  ∀ s : State,
    (s.resetReq = true → selectService s = some .reset) ∧
    (s.resetReq = false → s.nmiReq = true → selectService s = some .nmi) ∧
    (s.resetReq = false → s.nmiReq = false → s.irqLine = true → s.flags.i = false → selectService s = some .irq) ∧
    (s.resetReq = false → s.nmiReq = false → s.irqLine = true → s.flags.i = true → selectService s = none) ∧
    (s.resetReq = false → s.nmiReq = false → s.irqLine = false → selectService s = none) ∧
    (serviceInterrupts s).resetReq = false ∧
    (serviceInterrupts s).nmiReq = (s.nmiReq && s.resetReq) ∧
    (serviceInterrupts s).irqLine = s.irqLine

/-- In every state with a reset request: the interrupt check leaves PC the word at 0xFFFC (low) and 0xFFFD (high), the
request cleared, 7 cycles more, and every other field, all of memory included, unchanged. (stated: R183) -/
def Obligations.ResetServiceLoadsTheResetVector : Prop :=
  ∀ s : State, s.resetReq = true →
    serviceInterrupts s =
      { s with pc := joinBytes (readByte s 0xFFFD) (readByte s 0xFFFC), resetReq := false, cycles := s.cycles + 7 }

/-- For every state, vector and Break value: after the entry the three slots from 0x0100 + SP down hold PC high, PC low
and the status byte with that Break bit, SP is SP - 3, I is set when ENTRY_SETS_I and no other flag changes, PC is
the word at the vector; every other byte of memory and every other field is unchanged. Setting I is the spec's
decision D4. (derived: R186, R54, 92_eei_decisions.md D4) -/
def Obligations.InterruptEntryPushesAFrame : Prop :=
  ∀ (vec : Word) (brk : Bool) (s : State),
    let t := interruptEntry vec brk s
    t = { s with
      pc := read16 t vec, sp := s.sp - 3, mem := t.mem
      flags := { s.flags with i := s.flags.i || s.params.entrySetsI } } ∧
    readByte t (stackAddr s.sp) = highByte s.pc ∧
    readByte t (stackAddr (s.sp - 1)) = lowByte s.pc ∧
    readByte t (stackAddr (s.sp - 2)) = statusByte brk s.flags ∧
    ∀ a : Word, a ≠ stackAddr s.sp → a ≠ stackAddr (s.sp - 1) → a ≠ stackAddr (s.sp - 2) →
      readByte t a = readByte s a

/-- With no reset request: an NMI request makes the interrupt check the entry through 0xFFFA with Break 0, the request
cleared and 7 cycles; with no NMI either, the IRQ line with I = 0 makes it the entry through 0xFFFE with Break 0 and
7 cycles. That the IRQ line is a level the core never clears (D5) and that NMI and IRQ push Break 0 (D6) are the
spec's own decisions (log entry 13). (derived: R184, R185, R186, R228, 92_eei_decisions.md D5, 92_eei_decisions.md
D6) -/
def Obligations.NmiAndIrqEnterThroughTheirVectors : Prop :=
  ∀ s : State, s.resetReq = false →
    (s.nmiReq = true → serviceInterrupts s =
      { interruptEntry 0xFFFA false s with nmiReq := false, cycles := s.cycles + 7 }) ∧
    (s.nmiReq = false → s.irqLine = true → s.flags.i = false → serviceInterrupts s =
      { interruptEntry 0xFFFE false s with cycles := s.cycles + 7 })

/-- With no reset and no NMI request and the IRQ line high: if I is set, the interrupt check leaves the whole state as
it is (PC, cycles, stack and the line included); if I is clear, it is the entry through 0xFFFE with Break bit 0 and
7 cycles, the line left as it is. That the line is a level the core never clears (D5) and the pushed Break bit 0
(D6) are the spec's own decisions (log entry 13). (derived: R185, R186, 92_eei_decisions.md D5, 92_eei_decisions.md
D6) -/
def Obligations.MaskedIrqIsANoOp : Prop :=
  ∀ s : State, s.resetReq = false → s.nmiReq = false → s.irqLine = true →
    serviceInterrupts s =
      if s.flags.i = true then s else { interruptEntry 0xFFFE false s with cycles := s.cycles + 7 }

/-- For every powered state whose byte at PC, after the interrupt check, has no admitted row: step answers the
unmapped-opcode fault with that byte, its address, and the state after the interrupt check with PC one further and
nothing else changed; and the host's step call reports it and leaves that state. The state after the error is the
spec's decision D16. (derived: R191, R229, 92_eei_decisions.md D16) -/
def Obligations.UnmappedOpcodeFaultsAfterTheFetch : Prop :=
  ∀ s : State, s.powered = true →
    let u := serviceInterrupts s
    lookupOpcode u.params.admitted (readByte u u.pc) = none →
    step s = .fault (.unmappedOpcode (readByte u u.pc) u.pc { u with pc := u.pc + 1 }) ∧
    hostStep s = (.unmappedOpcode (readByte u u.pc) u.pc, { u with pc := u.pc + 1 })

/-- Every instruction answers a next state from every state. A step of a powered state answers a next state, or an
unmapped-opcode fault and then the fetched byte has no admitted row; a step of an unpowered state is refused
NotPoweredOn. No other answer exists, MalformedMetadata among them. The address in the fault (D16) and the refusal
(D30) are the spec's own decisions. (derived: R193, R14, R192, R53, R213, R191, 92_eei_decisions.md D16,
92_eei_decisions.md D30) -/
def Obligations.OnlyUnmappedBytesAndNoPowerStopAStep : Prop :=
  (∀ (i : Instr) (s : State), ∃ t, exec i s = .next t) ∧
  ∀ s : State,
    match step s with
    | .next _ => s.powered = true
    | .fault (.unmappedOpcode opcode addr _) => s.powered = true ∧ addr = (serviceInterrupts s).pc ∧
        opcode = readByte (serviceInterrupts s) addr ∧ lookupOpcode s.params.admitted opcode = none
    | .refused r => s.powered = false ∧ r = .notPoweredOn

/-- In every unpowered state step answers the refusal NotPoweredOn; the host's step() and reset() calls return it and
leave the state as it is; setReset, setNmi and setIrq are allowed and a following powerOn clears their effect; a
newly created core counts 0 cycles and has no request. The refusals are the spec's decision D30. (derived: R213,
92_eei_decisions.md D30) -/
def Obligations.StepAndResetNeedPower : Prop :=
  (∀ s : State, s.powered = false →
    step s = .refused .notPoweredOn ∧
    hostCall .step s = (.refused .notPoweredOn, s) ∧
    hostCall .reset s = (.refused .notPoweredOn, s)) ∧
  (∀ (call : HostCall) (s : State), call ∈ [.setReset, .setNmi, .setIrq true, .setIrq false] →
    powerOn (hostCall call s).2 = powerOn s) ∧
  (hostCall .cycleCount State.created).1 = .count 0 ∧
  State.created.resetReq = false ∧ State.created.nmiReq = false ∧ State.created.irqLine = false

/-- From every state powerOn gives A, X, Y 0, SP 0xFD, I 1, every other flag 0, requests and page_crossed false,
powered, PC 0xC000 or the word at 0xFFFC by the parameter; cycles, parameters and memory unchanged. State.reset is
what it gives a newly created core. The source of PC is OPEN in the spec (D7): that State.reset takes 0xC000 is the
model's choice (log entry 2), as are the bytes of empty memory (log entry 3); the request flags, page_crossed and
cycles follow the spec's decisions D8 and D27. (derived: R210, R38, 92_eei_decisions.md D7, 92_eei_decisions.md D8,
92_eei_decisions.md D27) -/
def Obligations.PowerOnGivesTheFixedState : Prop :=
  (∀ s : State, powerOn s =
    { s with
      a := 0x00, x := 0x00, y := 0x00, sp := 0xFD
      flags := { n := false, v := false, d := false, i := true, z := false, c := false }
      pc := match s.params.powerOnPc with
        | .fixedC000 => 0xC000
        | .resetVector => joinBytes (readByte s 0xFFFD) (readByte s 0xFFFC)
      resetReq := false, nmiReq := false, irqLine := false, pageCrossed := false, powered := true }) ∧
  powerOn State.created = State.reset

/-- For every powered state reset() makes SP (SP - 3) mod 256 and I 1 and changes nothing else. In every state setReset,
setNmi and setIrq(level) write their one flag; cycleCount returns cycles mod 2^64 and changes nothing. powerOn()
returns nothing and leaves what the power-on of PowerOnGivesTheFixedState leaves; step() returns Ok(n) and leaves t
when the step answers t, n the cycles added, and returns the fault or the refusal as the step answers it; a memory
read returns the byte and changes nothing, a memory write returns nothing and replaces that byte alone. That reset()
neither requests the reset interrupt nor adds cycles is the spec's decision (D8, D9). (derived: R211, R199, R200,
92_eei_decisions.md D8, 92_eei_decisions.md D9) -/
def Obligations.HostCallsAnswerAsTheirTable : Prop :=
  ∀ s : State,
    (s.powered = true → hostCall .reset s =
      (.nothing, { s with sp := BitVec.ofNat 8 ((s.sp.toNat + 253) % 256), flags := { s.flags with i := true } })) ∧
    hostCall .setReset s = (.nothing, { s with resetReq := true }) ∧
    hostCall .setNmi s = (.nothing, { s with nmiReq := true }) ∧
    (∀ level : Bool, hostCall (.setIrq level) s = (.nothing, { s with irqLine := level })) ∧
    (∃ n : BitVec 64, n.toNat = s.cycles % 2 ^ 64 ∧ hostCall .cycleCount s = (.count n, s)) ∧
    hostCall .powerOn s = (.nothing, powerOn s) ∧
    hostCall .step s = hostStep s ∧
    hostStep s = (match step s with
      | .next t => (.ok (t.cycles - s.cycles), t)
      | .fault (.unmappedOpcode opcode addr after) => (.unmappedOpcode opcode addr, after)
      | .refused r => (.refused r, s)) ∧
    (∀ a : Word, hostCall (.readMemory a) s = (.byte (readByte s a), s)) ∧
    ∀ (a : Word) (v : Byte),
      hostCall (.writeMemory a v) s = (.nothing, { s with mem := (writeByte s a v).mem }) ∧
      readByte (hostCall (.writeMemory a v) s).2 a = v ∧
      ∀ a' : Word, a' ≠ a → readByte (hostCall (.writeMemory a v) s).2 a' = readByte s a'

/-- State.reset is powered and its memory, with nothing listed, is in canonical form. (derived: R38, R45, R34) -/
def Obligations.InvHoldsAtReset : Prop :=
  State.reset.Inv

/-- For every state with the invariant (memory cells at strictly rising addresses below 2^16, none holding the unlisted
byte; powered): if step answers a next state it has the invariant, and if step answers an unmapped-opcode fault the
state the core is left in has it. The canonical form is the model's way of holding R45's 65,536 bytes as data.
(derived: R45, R46, R50, R34, R191) -/
def Obligations.StepKeepsInv : Prop :=
  ∀ s : State, s.Inv →
    match step s with
    | .next t => t.Inv
    | .fault f => f.after.Inv
    | .refused _ => False

/-- For every call of the public surface and every state: if memory is in canonical form it is so afterwards; if the
invariant holds it holds afterwards; powerOn of any state with canonical memory gives the invariant. (derived: R199,
R200, R45) -/
def Obligations.HostCallsKeepMemoryCanonical : Prop :=
  ∀ (call : HostCall) (s : State),
    (s.mem.wf = true → (hostCall call s).2.mem.wf = true) ∧
    (s.Inv → (hostCall call s).2.Inv) ∧
    (s.mem.wf = true → (powerOn s).Inv)

/-- For every state from which step answers a next state or a fault, with t the state it leaves: the IRQ line, powered
and the parameters are unchanged; no reset request is left; an NMI request is left exactly when one was pending
behind a reset; the cycle counter has not decreased. That the core never clears the IRQ line (D5), that a lower
request stays pending (D25) and what a fault leaves (D16) are the spec's own decisions. (derived: R31, R35, R187,
92_eei_decisions.md D5, 92_eei_decisions.md D16, 92_eei_decisions.md D25) -/
def Obligations.StepWritesNoRequestButByService : Prop :=
  ∀ s t : State, (step s = .next t ∨ ∃ f, step s = .fault f ∧ f.after = t) →
    t.irqLine = s.irqLine ∧ t.powered = s.powered ∧ t.params = s.params ∧
    t.resetReq = false ∧ t.nmiReq = (s.nmiReq && s.resetReq) ∧ s.cycles ≤ t.cycles

/-- For every instruction and state, when the instruction answers t: C, Z, N, V, I, D are as before unless R36 names the
instruction as a writer of that flag (BRK writes I only when ENTRY_SETS_I). This formalises the table R36 marks as
derived. (derived: R36) -/
def Obligations.OnlyTheirWritersChangeTheFlags : Prop :=
  ∀ (i : Instr) (s t : State), exec i s = .next t →
    (i.writesC = false → t.flags.c = s.flags.c) ∧
    (i.writesNZ = false → t.flags.z = s.flags.z ∧ t.flags.n = s.flags.n) ∧
    (i.writesV = false → t.flags.v = s.flags.v) ∧
    (i.writesI s.params = false → t.flags.i = s.flags.i) ∧
    (i.writesD = false → t.flags.d = s.flags.d)

/-- For every instruction and state, when the instruction answers t: A, X, Y, SP are as before unless the instruction is
one of the register's writers (SP: TXS and the instructions that push or pop); the three request lines, the powered
flag and the parameters are as before. (derived: R22, R23, R24, R25, R31, R21) -/
def Obligations.OnlyTheirWritersChangeTheRegisters : Prop :=
  ∀ (i : Instr) (s t : State), exec i s = .next t →
    (i.writesA = false → t.a = s.a) ∧ (i.writesX = false → t.x = s.x) ∧ (i.writesY = false → t.y = s.y) ∧
    (i.writesSP = false → t.sp = s.sp) ∧
    t.resetReq = s.resetReq ∧ t.nmiReq = s.nmiReq ∧ t.irqLine = s.irqLine ∧ t.powered = s.powered ∧
    t.params = s.params

/-- For every instruction and state, when the instruction answers t: with the address a store or read-modify-write
stores to computed as its meaning computes it, and the slots a push writes computed from SP, every other address
reads in t as in s; an instruction that stores and pushes nothing leaves every byte as it was. (derived: R63, R50,
R97, R100) -/
def Obligations.OnlyTheStoredBytesChange : Prop :=
  ∀ (i : Instr) (s t : State), exec i s = .next t →
    ∀ a : Word, a ∉ storedAddrs i s → readByte t a = readByte s a

/-- For every state and value d: an instruction other than PHP, BRK, PLP, RTI, CLD, SED, run with D replaced by d,
answers the same state with D replaced by d; PLP, RTI, CLD and SED, which write D, answer the very same state. That
arithmetic is binary whatever D is is the spec's decision D2. (derived: R37, R121, 92_eei_decisions.md D2) -/
def Obligations.DecimalFlagAffectsNoOtherState : Prop :=
  ∀ (i : Instr) (s t : State) (d : Bool), exec i s = .next t →
    (i.mnemonic ∉ [Mnemonic.php, .brk, .plp, .rti, .cld, .sed] →
      exec i { s with flags := { s.flags with d := d } } = .next { t with flags := { t.flags with d := d } }) ∧
    (i.mnemonic ∈ [Mnemonic.plp, .rti, .cld, .sed] →
      exec i { s with flags := { s.flags with d := d } } = .next t)

/-- For every state: if step answers a next state the counter has grown by at least 2 and at most 14, and the host's
step call returns Ok with exactly that number; if step faults, the counter of the state left is as before or 7 more,
7 exactly when a request was serviced. This formalises the bounds R230 marks as derived; what a fault leaves in the
counter is the spec's own decision D16. (derived: R230, R224, R180, R229, 92_eei_decisions.md D16) -/
def Obligations.StepCycleBounds : Prop :=
  ∀ s : State,
    match step s with
    | .next t => s.cycles + 2 ≤ t.cycles ∧ t.cycles ≤ s.cycles + 14 ∧
        ∃ n, hostStep s = (.ok n, t) ∧ t.cycles = s.cycles + n
    | .fault f => f.after.cycles = s.cycles + (if selectService s = none then 0 else 7)
    | .refused _ => True

/-- Rule 2 of R203 holds exactly of a powered state with no request to service and 4C, PC low, PC high at PC, PC + 1, PC
+ 2. Where it holds, every run ends halted there, and the step answers the same state with page_crossed false and 3
cycles more, of which the rule holds again. Where it does not hold, a run of 0 steps is cut (rule 3), and a run of n
+ 1 steps ends faulted if the step faults (rule 1), refused if it is refused, and else as the run of n steps from
the next state. The end of a run is the spec's convention (D37); that a run of a core not powered on ends refused is
the model's reading (log entry 16, DEDUCED). (derived: R203, R145, R182, 92_eei_decisions.md D37, log entry 16) -/
def Obligations.EndOfRunAndSelfJump : Prop :=
  ∀ s : State,
    (haltsHere s = true ↔ s.powered = true ∧ selectService s = none ∧ readByte s s.pc = 0x4C ∧
      readByte s (s.pc + 1) = lowByte s.pc ∧ readByte s (s.pc + 2) = highByte s.pc) ∧
    (haltsHere s = true →
      (∃ t, step s = .next t ∧ t = { s with pageCrossed := false, cycles := s.cycles + 3 } ∧ haltsHere t = true) ∧
      ∀ n : Nat, runToEnd n s = .halted s) ∧
    (haltsHere s = false →
      runToEnd 0 s = .cut s ∧
      ∀ n : Nat,
        (∀ t, step s = .next t → runToEnd (n + 1) s = runToEnd n t) ∧
        (∀ f, step s = .fault f → runToEnd (n + 1) s = .faulted f) ∧
        ∀ r, step s = .refused r → runToEnd (n + 1) s = .refused r)

/-- In every state: loading an immediate gives its byte, consumes one byte and clears page_crossed; loading from an
addressing mode gives the byte at the address its resolution gives, in the state the resolution leaves. The operand,
the page crossing and the place that the statements of the instructions use are these, taken with PC one past the
opcode. That an immediate clears page_crossed is the spec's decision D27. (derived: R85, R97, R80, R188,
92_eei_decisions.md D27) -/
def Obligations.LoadGivesTheResolvedOperand : Prop :=
  ∀ s : State,
    let atOperand : State := { s with pc := s.pc + 1 }
    (∀ nn : Byte,
      loadSource (.immediate nn) s = (nn, { s with pc := s.pc + 1, pageCrossed := false }) ∧
      operandOf (.immediate nn) s = nn ∧ sourceCrossed (.immediate nn) s = false) ∧
    ∀ m : AddrMode,
      loadSource (.memory m) s = (readByte s (resolve m s).1, (resolve m s).2) ∧
      operandOf (.memory m) s = readByte s (resolve m atOperand).1 ∧
      sourceCrossed (.memory m) s = (resolve m atOperand).2.pageCrossed ∧
      placeOf m s = (resolve m atOperand).1 ∧
      addrCrossed m (fetchOpcode s) = (resolve m atOperand).2.pageCrossed
end

