-- ==== Sys2Proof/Laws/State.lean ====
section
/-! SUPPORT. One lemma per field per update of the state, so that no later proof unfolds a record update. -/

namespace Sys2Proof.Machine

/-! ### setPC -/

@[simp] theorem State.setPC_pc (s : State) (v : Word) : (s.setPC v).pc = v := rfl
@[simp] theorem State.setPC_a (s : State) (v : Word) : (s.setPC v).a = s.a := rfl
@[simp] theorem State.setPC_x (s : State) (v : Word) : (s.setPC v).x = s.x := rfl
@[simp] theorem State.setPC_y (s : State) (v : Word) : (s.setPC v).y = s.y := rfl
@[simp] theorem State.setPC_sp (s : State) (v : Word) : (s.setPC v).sp = s.sp := rfl
@[simp] theorem State.setPC_flags (s : State) (v : Word) : (s.setPC v).flags = s.flags := rfl
@[simp] theorem State.setPC_cycles (s : State) (v : Word) : (s.setPC v).cycles = s.cycles := rfl
@[simp] theorem State.setPC_resetReq (s : State) (v : Word) : (s.setPC v).resetReq = s.resetReq := rfl
@[simp] theorem State.setPC_nmiReq (s : State) (v : Word) : (s.setPC v).nmiReq = s.nmiReq := rfl
@[simp] theorem State.setPC_irqLine (s : State) (v : Word) : (s.setPC v).irqLine = s.irqLine := rfl
@[simp] theorem State.setPC_pageCrossed (s : State) (v : Word) : (s.setPC v).pageCrossed = s.pageCrossed := rfl
@[simp] theorem State.setPC_powered (s : State) (v : Word) : (s.setPC v).powered = s.powered := rfl
@[simp] theorem State.setPC_params (s : State) (v : Word) : (s.setPC v).params = s.params := rfl
@[simp] theorem State.setPC_mem (s : State) (v : Word) : (s.setPC v).mem = s.mem := rfl

/-! ### setA -/

@[simp] theorem State.setA_pc (s : State) (v : Byte) : (s.setA v).pc = s.pc := rfl
@[simp] theorem State.setA_a (s : State) (v : Byte) : (s.setA v).a = v := rfl
@[simp] theorem State.setA_x (s : State) (v : Byte) : (s.setA v).x = s.x := rfl
@[simp] theorem State.setA_y (s : State) (v : Byte) : (s.setA v).y = s.y := rfl
@[simp] theorem State.setA_sp (s : State) (v : Byte) : (s.setA v).sp = s.sp := rfl
@[simp] theorem State.setA_flags (s : State) (v : Byte) : (s.setA v).flags = s.flags := rfl
@[simp] theorem State.setA_cycles (s : State) (v : Byte) : (s.setA v).cycles = s.cycles := rfl
@[simp] theorem State.setA_resetReq (s : State) (v : Byte) : (s.setA v).resetReq = s.resetReq := rfl
@[simp] theorem State.setA_nmiReq (s : State) (v : Byte) : (s.setA v).nmiReq = s.nmiReq := rfl
@[simp] theorem State.setA_irqLine (s : State) (v : Byte) : (s.setA v).irqLine = s.irqLine := rfl
@[simp] theorem State.setA_pageCrossed (s : State) (v : Byte) : (s.setA v).pageCrossed = s.pageCrossed := rfl
@[simp] theorem State.setA_powered (s : State) (v : Byte) : (s.setA v).powered = s.powered := rfl
@[simp] theorem State.setA_params (s : State) (v : Byte) : (s.setA v).params = s.params := rfl
@[simp] theorem State.setA_mem (s : State) (v : Byte) : (s.setA v).mem = s.mem := rfl

/-! ### setX -/

@[simp] theorem State.setX_pc (s : State) (v : Byte) : (s.setX v).pc = s.pc := rfl
@[simp] theorem State.setX_a (s : State) (v : Byte) : (s.setX v).a = s.a := rfl
@[simp] theorem State.setX_x (s : State) (v : Byte) : (s.setX v).x = v := rfl
@[simp] theorem State.setX_y (s : State) (v : Byte) : (s.setX v).y = s.y := rfl
@[simp] theorem State.setX_sp (s : State) (v : Byte) : (s.setX v).sp = s.sp := rfl
@[simp] theorem State.setX_flags (s : State) (v : Byte) : (s.setX v).flags = s.flags := rfl
@[simp] theorem State.setX_cycles (s : State) (v : Byte) : (s.setX v).cycles = s.cycles := rfl
@[simp] theorem State.setX_resetReq (s : State) (v : Byte) : (s.setX v).resetReq = s.resetReq := rfl
@[simp] theorem State.setX_nmiReq (s : State) (v : Byte) : (s.setX v).nmiReq = s.nmiReq := rfl
@[simp] theorem State.setX_irqLine (s : State) (v : Byte) : (s.setX v).irqLine = s.irqLine := rfl
@[simp] theorem State.setX_pageCrossed (s : State) (v : Byte) : (s.setX v).pageCrossed = s.pageCrossed := rfl
@[simp] theorem State.setX_powered (s : State) (v : Byte) : (s.setX v).powered = s.powered := rfl
@[simp] theorem State.setX_params (s : State) (v : Byte) : (s.setX v).params = s.params := rfl
@[simp] theorem State.setX_mem (s : State) (v : Byte) : (s.setX v).mem = s.mem := rfl

/-! ### setY -/

@[simp] theorem State.setY_pc (s : State) (v : Byte) : (s.setY v).pc = s.pc := rfl
@[simp] theorem State.setY_a (s : State) (v : Byte) : (s.setY v).a = s.a := rfl
@[simp] theorem State.setY_x (s : State) (v : Byte) : (s.setY v).x = s.x := rfl
@[simp] theorem State.setY_y (s : State) (v : Byte) : (s.setY v).y = v := rfl
@[simp] theorem State.setY_sp (s : State) (v : Byte) : (s.setY v).sp = s.sp := rfl
@[simp] theorem State.setY_flags (s : State) (v : Byte) : (s.setY v).flags = s.flags := rfl
@[simp] theorem State.setY_cycles (s : State) (v : Byte) : (s.setY v).cycles = s.cycles := rfl
@[simp] theorem State.setY_resetReq (s : State) (v : Byte) : (s.setY v).resetReq = s.resetReq := rfl
@[simp] theorem State.setY_nmiReq (s : State) (v : Byte) : (s.setY v).nmiReq = s.nmiReq := rfl
@[simp] theorem State.setY_irqLine (s : State) (v : Byte) : (s.setY v).irqLine = s.irqLine := rfl
@[simp] theorem State.setY_pageCrossed (s : State) (v : Byte) : (s.setY v).pageCrossed = s.pageCrossed := rfl
@[simp] theorem State.setY_powered (s : State) (v : Byte) : (s.setY v).powered = s.powered := rfl
@[simp] theorem State.setY_params (s : State) (v : Byte) : (s.setY v).params = s.params := rfl
@[simp] theorem State.setY_mem (s : State) (v : Byte) : (s.setY v).mem = s.mem := rfl

/-! ### setSP -/

@[simp] theorem State.setSP_pc (s : State) (v : Byte) : (s.setSP v).pc = s.pc := rfl
@[simp] theorem State.setSP_a (s : State) (v : Byte) : (s.setSP v).a = s.a := rfl
@[simp] theorem State.setSP_x (s : State) (v : Byte) : (s.setSP v).x = s.x := rfl
@[simp] theorem State.setSP_y (s : State) (v : Byte) : (s.setSP v).y = s.y := rfl
@[simp] theorem State.setSP_sp (s : State) (v : Byte) : (s.setSP v).sp = v := rfl
@[simp] theorem State.setSP_flags (s : State) (v : Byte) : (s.setSP v).flags = s.flags := rfl
@[simp] theorem State.setSP_cycles (s : State) (v : Byte) : (s.setSP v).cycles = s.cycles := rfl
@[simp] theorem State.setSP_resetReq (s : State) (v : Byte) : (s.setSP v).resetReq = s.resetReq := rfl
@[simp] theorem State.setSP_nmiReq (s : State) (v : Byte) : (s.setSP v).nmiReq = s.nmiReq := rfl
@[simp] theorem State.setSP_irqLine (s : State) (v : Byte) : (s.setSP v).irqLine = s.irqLine := rfl
@[simp] theorem State.setSP_pageCrossed (s : State) (v : Byte) : (s.setSP v).pageCrossed = s.pageCrossed := rfl
@[simp] theorem State.setSP_powered (s : State) (v : Byte) : (s.setSP v).powered = s.powered := rfl
@[simp] theorem State.setSP_params (s : State) (v : Byte) : (s.setSP v).params = s.params := rfl
@[simp] theorem State.setSP_mem (s : State) (v : Byte) : (s.setSP v).mem = s.mem := rfl

/-! ### setFlags -/

@[simp] theorem State.setFlags_pc (s : State) (f : Flags) : (s.setFlags f).pc = s.pc := rfl
@[simp] theorem State.setFlags_a (s : State) (f : Flags) : (s.setFlags f).a = s.a := rfl
@[simp] theorem State.setFlags_x (s : State) (f : Flags) : (s.setFlags f).x = s.x := rfl
@[simp] theorem State.setFlags_y (s : State) (f : Flags) : (s.setFlags f).y = s.y := rfl
@[simp] theorem State.setFlags_sp (s : State) (f : Flags) : (s.setFlags f).sp = s.sp := rfl
@[simp] theorem State.setFlags_flags (s : State) (f : Flags) : (s.setFlags f).flags = f := rfl
@[simp] theorem State.setFlags_cycles (s : State) (f : Flags) : (s.setFlags f).cycles = s.cycles := rfl
@[simp] theorem State.setFlags_resetReq (s : State) (f : Flags) : (s.setFlags f).resetReq = s.resetReq := rfl
@[simp] theorem State.setFlags_nmiReq (s : State) (f : Flags) : (s.setFlags f).nmiReq = s.nmiReq := rfl
@[simp] theorem State.setFlags_irqLine (s : State) (f : Flags) : (s.setFlags f).irqLine = s.irqLine := rfl
@[simp] theorem State.setFlags_pageCrossed (s : State) (f : Flags) : (s.setFlags f).pageCrossed = s.pageCrossed := rfl
@[simp] theorem State.setFlags_powered (s : State) (f : Flags) : (s.setFlags f).powered = s.powered := rfl
@[simp] theorem State.setFlags_params (s : State) (f : Flags) : (s.setFlags f).params = s.params := rfl
@[simp] theorem State.setFlags_mem (s : State) (f : Flags) : (s.setFlags f).mem = s.mem := rfl

/-! ### addCycles -/

@[simp] theorem State.addCycles_pc (s : State) (n : Nat) : (s.addCycles n).pc = s.pc := rfl
@[simp] theorem State.addCycles_a (s : State) (n : Nat) : (s.addCycles n).a = s.a := rfl
@[simp] theorem State.addCycles_x (s : State) (n : Nat) : (s.addCycles n).x = s.x := rfl
@[simp] theorem State.addCycles_y (s : State) (n : Nat) : (s.addCycles n).y = s.y := rfl
@[simp] theorem State.addCycles_sp (s : State) (n : Nat) : (s.addCycles n).sp = s.sp := rfl
@[simp] theorem State.addCycles_flags (s : State) (n : Nat) : (s.addCycles n).flags = s.flags := rfl
@[simp] theorem State.addCycles_cycles (s : State) (n : Nat) : (s.addCycles n).cycles = s.cycles + n := rfl
@[simp] theorem State.addCycles_resetReq (s : State) (n : Nat) : (s.addCycles n).resetReq = s.resetReq := rfl
@[simp] theorem State.addCycles_nmiReq (s : State) (n : Nat) : (s.addCycles n).nmiReq = s.nmiReq := rfl
@[simp] theorem State.addCycles_irqLine (s : State) (n : Nat) : (s.addCycles n).irqLine = s.irqLine := rfl
@[simp] theorem State.addCycles_pageCrossed (s : State) (n : Nat) : (s.addCycles n).pageCrossed = s.pageCrossed := rfl
@[simp] theorem State.addCycles_powered (s : State) (n : Nat) : (s.addCycles n).powered = s.powered := rfl
@[simp] theorem State.addCycles_params (s : State) (n : Nat) : (s.addCycles n).params = s.params := rfl
@[simp] theorem State.addCycles_mem (s : State) (n : Nat) : (s.addCycles n).mem = s.mem := rfl

/-! ### setPageCrossed -/

@[simp] theorem State.setPageCrossed_pc (s : State) (b : Bool) : (s.setPageCrossed b).pc = s.pc := rfl
@[simp] theorem State.setPageCrossed_a (s : State) (b : Bool) : (s.setPageCrossed b).a = s.a := rfl
@[simp] theorem State.setPageCrossed_x (s : State) (b : Bool) : (s.setPageCrossed b).x = s.x := rfl
@[simp] theorem State.setPageCrossed_y (s : State) (b : Bool) : (s.setPageCrossed b).y = s.y := rfl
@[simp] theorem State.setPageCrossed_sp (s : State) (b : Bool) : (s.setPageCrossed b).sp = s.sp := rfl
@[simp] theorem State.setPageCrossed_flags (s : State) (b : Bool) : (s.setPageCrossed b).flags = s.flags := rfl
@[simp] theorem State.setPageCrossed_cycles (s : State) (b : Bool) : (s.setPageCrossed b).cycles = s.cycles := rfl
@[simp] theorem State.setPageCrossed_resetReq (s : State) (b : Bool) : (s.setPageCrossed b).resetReq = s.resetReq := rfl
@[simp] theorem State.setPageCrossed_nmiReq (s : State) (b : Bool) : (s.setPageCrossed b).nmiReq = s.nmiReq := rfl
@[simp] theorem State.setPageCrossed_irqLine (s : State) (b : Bool) : (s.setPageCrossed b).irqLine = s.irqLine := rfl
@[simp] theorem State.setPageCrossed_pageCrossed (s : State) (b : Bool) : (s.setPageCrossed b).pageCrossed = b := rfl
@[simp] theorem State.setPageCrossed_powered (s : State) (b : Bool) : (s.setPageCrossed b).powered = s.powered := rfl
@[simp] theorem State.setPageCrossed_params (s : State) (b : Bool) : (s.setPageCrossed b).params = s.params := rfl
@[simp] theorem State.setPageCrossed_mem (s : State) (b : Bool) : (s.setPageCrossed b).mem = s.mem := rfl

/-! ### setResetReq -/

@[simp] theorem State.setResetReq_pc (s : State) (b : Bool) : (s.setResetReq b).pc = s.pc := rfl
@[simp] theorem State.setResetReq_a (s : State) (b : Bool) : (s.setResetReq b).a = s.a := rfl
@[simp] theorem State.setResetReq_x (s : State) (b : Bool) : (s.setResetReq b).x = s.x := rfl
@[simp] theorem State.setResetReq_y (s : State) (b : Bool) : (s.setResetReq b).y = s.y := rfl
@[simp] theorem State.setResetReq_sp (s : State) (b : Bool) : (s.setResetReq b).sp = s.sp := rfl
@[simp] theorem State.setResetReq_flags (s : State) (b : Bool) : (s.setResetReq b).flags = s.flags := rfl
@[simp] theorem State.setResetReq_cycles (s : State) (b : Bool) : (s.setResetReq b).cycles = s.cycles := rfl
@[simp] theorem State.setResetReq_resetReq (s : State) (b : Bool) : (s.setResetReq b).resetReq = b := rfl
@[simp] theorem State.setResetReq_nmiReq (s : State) (b : Bool) : (s.setResetReq b).nmiReq = s.nmiReq := rfl
@[simp] theorem State.setResetReq_irqLine (s : State) (b : Bool) : (s.setResetReq b).irqLine = s.irqLine := rfl
@[simp] theorem State.setResetReq_pageCrossed (s : State) (b : Bool) : (s.setResetReq b).pageCrossed = s.pageCrossed := rfl
@[simp] theorem State.setResetReq_powered (s : State) (b : Bool) : (s.setResetReq b).powered = s.powered := rfl
@[simp] theorem State.setResetReq_params (s : State) (b : Bool) : (s.setResetReq b).params = s.params := rfl
@[simp] theorem State.setResetReq_mem (s : State) (b : Bool) : (s.setResetReq b).mem = s.mem := rfl

/-! ### setNmiReq -/

@[simp] theorem State.setNmiReq_pc (s : State) (b : Bool) : (s.setNmiReq b).pc = s.pc := rfl
@[simp] theorem State.setNmiReq_a (s : State) (b : Bool) : (s.setNmiReq b).a = s.a := rfl
@[simp] theorem State.setNmiReq_x (s : State) (b : Bool) : (s.setNmiReq b).x = s.x := rfl
@[simp] theorem State.setNmiReq_y (s : State) (b : Bool) : (s.setNmiReq b).y = s.y := rfl
@[simp] theorem State.setNmiReq_sp (s : State) (b : Bool) : (s.setNmiReq b).sp = s.sp := rfl
@[simp] theorem State.setNmiReq_flags (s : State) (b : Bool) : (s.setNmiReq b).flags = s.flags := rfl
@[simp] theorem State.setNmiReq_cycles (s : State) (b : Bool) : (s.setNmiReq b).cycles = s.cycles := rfl
@[simp] theorem State.setNmiReq_resetReq (s : State) (b : Bool) : (s.setNmiReq b).resetReq = s.resetReq := rfl
@[simp] theorem State.setNmiReq_nmiReq (s : State) (b : Bool) : (s.setNmiReq b).nmiReq = b := rfl
@[simp] theorem State.setNmiReq_irqLine (s : State) (b : Bool) : (s.setNmiReq b).irqLine = s.irqLine := rfl
@[simp] theorem State.setNmiReq_pageCrossed (s : State) (b : Bool) : (s.setNmiReq b).pageCrossed = s.pageCrossed := rfl
@[simp] theorem State.setNmiReq_powered (s : State) (b : Bool) : (s.setNmiReq b).powered = s.powered := rfl
@[simp] theorem State.setNmiReq_params (s : State) (b : Bool) : (s.setNmiReq b).params = s.params := rfl
@[simp] theorem State.setNmiReq_mem (s : State) (b : Bool) : (s.setNmiReq b).mem = s.mem := rfl

/-! ### setIrqLine -/

@[simp] theorem State.setIrqLine_pc (s : State) (b : Bool) : (s.setIrqLine b).pc = s.pc := rfl
@[simp] theorem State.setIrqLine_a (s : State) (b : Bool) : (s.setIrqLine b).a = s.a := rfl
@[simp] theorem State.setIrqLine_x (s : State) (b : Bool) : (s.setIrqLine b).x = s.x := rfl
@[simp] theorem State.setIrqLine_y (s : State) (b : Bool) : (s.setIrqLine b).y = s.y := rfl
@[simp] theorem State.setIrqLine_sp (s : State) (b : Bool) : (s.setIrqLine b).sp = s.sp := rfl
@[simp] theorem State.setIrqLine_flags (s : State) (b : Bool) : (s.setIrqLine b).flags = s.flags := rfl
@[simp] theorem State.setIrqLine_cycles (s : State) (b : Bool) : (s.setIrqLine b).cycles = s.cycles := rfl
@[simp] theorem State.setIrqLine_resetReq (s : State) (b : Bool) : (s.setIrqLine b).resetReq = s.resetReq := rfl
@[simp] theorem State.setIrqLine_nmiReq (s : State) (b : Bool) : (s.setIrqLine b).nmiReq = s.nmiReq := rfl
@[simp] theorem State.setIrqLine_irqLine (s : State) (b : Bool) : (s.setIrqLine b).irqLine = b := rfl
@[simp] theorem State.setIrqLine_pageCrossed (s : State) (b : Bool) : (s.setIrqLine b).pageCrossed = s.pageCrossed := rfl
@[simp] theorem State.setIrqLine_powered (s : State) (b : Bool) : (s.setIrqLine b).powered = s.powered := rfl
@[simp] theorem State.setIrqLine_params (s : State) (b : Bool) : (s.setIrqLine b).params = s.params := rfl
@[simp] theorem State.setIrqLine_mem (s : State) (b : Bool) : (s.setIrqLine b).mem = s.mem := rfl

/-! ### writeByte -/

@[simp] theorem writeByte_pc (s : State) (addr : Word) (v : Byte) : (writeByte s addr v).pc = s.pc := rfl
@[simp] theorem writeByte_a (s : State) (addr : Word) (v : Byte) : (writeByte s addr v).a = s.a := rfl
@[simp] theorem writeByte_x (s : State) (addr : Word) (v : Byte) : (writeByte s addr v).x = s.x := rfl
@[simp] theorem writeByte_y (s : State) (addr : Word) (v : Byte) : (writeByte s addr v).y = s.y := rfl
@[simp] theorem writeByte_sp (s : State) (addr : Word) (v : Byte) : (writeByte s addr v).sp = s.sp := rfl
@[simp] theorem writeByte_flags (s : State) (addr : Word) (v : Byte) : (writeByte s addr v).flags = s.flags := rfl
@[simp] theorem writeByte_cycles (s : State) (addr : Word) (v : Byte) : (writeByte s addr v).cycles = s.cycles := rfl
@[simp] theorem writeByte_resetReq (s : State) (addr : Word) (v : Byte) : (writeByte s addr v).resetReq = s.resetReq := rfl
@[simp] theorem writeByte_nmiReq (s : State) (addr : Word) (v : Byte) : (writeByte s addr v).nmiReq = s.nmiReq := rfl
@[simp] theorem writeByte_irqLine (s : State) (addr : Word) (v : Byte) : (writeByte s addr v).irqLine = s.irqLine := rfl
@[simp] theorem writeByte_pageCrossed (s : State) (addr : Word) (v : Byte) : (writeByte s addr v).pageCrossed = s.pageCrossed := rfl
@[simp] theorem writeByte_powered (s : State) (addr : Word) (v : Byte) : (writeByte s addr v).powered = s.powered := rfl
@[simp] theorem writeByte_params (s : State) (addr : Word) (v : Byte) : (writeByte s addr v).params = s.params := rfl
@[simp] theorem writeByte_mem (s : State) (addr : Word) (v : Byte) : (writeByte s addr v).mem = s.mem.write addr.toNat v := rfl

/-! ### Flags -/

@[simp] theorem Flags.setC_n (f : Flags) (b : Bool) : (f.setC b).n = f.n := rfl
@[simp] theorem Flags.setC_v (f : Flags) (b : Bool) : (f.setC b).v = f.v := rfl
@[simp] theorem Flags.setC_d (f : Flags) (b : Bool) : (f.setC b).d = f.d := rfl
@[simp] theorem Flags.setC_i (f : Flags) (b : Bool) : (f.setC b).i = f.i := rfl
@[simp] theorem Flags.setC_z (f : Flags) (b : Bool) : (f.setC b).z = f.z := rfl
@[simp] theorem Flags.setC_c (f : Flags) (b : Bool) : (f.setC b).c = b := rfl
@[simp] theorem Flags.setV_n (f : Flags) (b : Bool) : (f.setV b).n = f.n := rfl
@[simp] theorem Flags.setV_v (f : Flags) (b : Bool) : (f.setV b).v = b := rfl
@[simp] theorem Flags.setV_d (f : Flags) (b : Bool) : (f.setV b).d = f.d := rfl
@[simp] theorem Flags.setV_i (f : Flags) (b : Bool) : (f.setV b).i = f.i := rfl
@[simp] theorem Flags.setV_z (f : Flags) (b : Bool) : (f.setV b).z = f.z := rfl
@[simp] theorem Flags.setV_c (f : Flags) (b : Bool) : (f.setV b).c = f.c := rfl
@[simp] theorem Flags.setD_n (f : Flags) (b : Bool) : (f.setD b).n = f.n := rfl
@[simp] theorem Flags.setD_v (f : Flags) (b : Bool) : (f.setD b).v = f.v := rfl
@[simp] theorem Flags.setD_d (f : Flags) (b : Bool) : (f.setD b).d = b := rfl
@[simp] theorem Flags.setD_i (f : Flags) (b : Bool) : (f.setD b).i = f.i := rfl
@[simp] theorem Flags.setD_z (f : Flags) (b : Bool) : (f.setD b).z = f.z := rfl
@[simp] theorem Flags.setD_c (f : Flags) (b : Bool) : (f.setD b).c = f.c := rfl
@[simp] theorem Flags.setI_n (f : Flags) (b : Bool) : (f.setI b).n = f.n := rfl
@[simp] theorem Flags.setI_v (f : Flags) (b : Bool) : (f.setI b).v = f.v := rfl
@[simp] theorem Flags.setI_d (f : Flags) (b : Bool) : (f.setI b).d = f.d := rfl
@[simp] theorem Flags.setI_i (f : Flags) (b : Bool) : (f.setI b).i = b := rfl
@[simp] theorem Flags.setI_z (f : Flags) (b : Bool) : (f.setI b).z = f.z := rfl
@[simp] theorem Flags.setI_c (f : Flags) (b : Bool) : (f.setI b).c = f.c := rfl
@[simp] theorem Flags.setNZ_n (f : Flags) (v : Byte) : (f.setNZ v).n = v.getLsbD 7 := rfl
@[simp] theorem Flags.setNZ_v (f : Flags) (v : Byte) : (f.setNZ v).v = f.v := rfl
@[simp] theorem Flags.setNZ_d (f : Flags) (v : Byte) : (f.setNZ v).d = f.d := rfl
@[simp] theorem Flags.setNZ_i (f : Flags) (v : Byte) : (f.setNZ v).i = f.i := rfl
@[simp] theorem Flags.setNZ_z (f : Flags) (v : Byte) : (f.setNZ v).z = (v == 0x00#8) := rfl
@[simp] theorem Flags.setNZ_c (f : Flags) (v : Byte) : (f.setNZ v).c = f.c := rfl

end Sys2Proof.Machine
end

