-- ==== Sys2Proof/Laws/Memory.lean ====
section
/-! SUPPORT. Memory as a list of cells: a byte read after a write, and the canonical form kept by every operation. -/

namespace Sys2Proof.Machine

/-! ### Reading -/

theorem Memory.read_erase_same (m : Memory) (a : Nat) : (m.erase a).read a = unlistedByte := by
  induction m with
  | nil => rfl
  | cons cell rest ih =>
    obtain ⟨k, b⟩ := cell
    by_cases h : k = a <;> simp [Memory.erase, Memory.read, h, ih]

theorem Memory.read_erase_ne (m : Memory) {a c : Nat} (h : c ≠ a) : (m.erase a).read c = m.read c := by
  induction m with
  | nil => rfl
  | cons cell rest ih =>
    obtain ⟨k, b⟩ := cell
    by_cases hk : k = a
    · simp [Memory.erase, Memory.read, hk, ih, Ne.symm h]
    · simp [Memory.erase, Memory.read, hk, ih]

theorem Memory.erase_has_no_key (m : Memory) (a : Nat) : ∀ cell ∈ m.erase a, cell.1 ≠ a := by
  induction m with
  | nil => simp [Memory.erase]
  | cons cell rest ih =>
    obtain ⟨k, b⟩ := cell
    by_cases h : k = a
    · simpa [Memory.erase, h] using ih
    · simpa [Memory.erase, h] using ih

theorem Memory.read_insert_same (m : Memory) (a : Nat) (v : Byte) (h : ∀ cell ∈ m, cell.1 ≠ a) :
    (m.insert a v).read a = v := by
  induction m with
  | nil => simp [Memory.insert, Memory.read]
  | cons cell rest ih =>
    obtain ⟨k, b⟩ := cell
    have hk : k ≠ a := h (k, b) (by simp)
    by_cases hlt : a < k
    · simp [Memory.insert, Memory.read, hlt]
    · simp [Memory.insert, Memory.read, hlt, hk, ih fun cell hc => h cell (by simp [hc])]

theorem Memory.read_insert_ne (m : Memory) {a c : Nat} (v : Byte) (h : c ≠ a) :
    (m.insert a v).read c = m.read c := by
  induction m with
  | nil => simp [Memory.insert, Memory.read, Ne.symm h]
  | cons cell rest ih =>
    obtain ⟨k, b⟩ := cell
    by_cases hlt : a < k <;> simp [Memory.insert, Memory.read, hlt, ih, Ne.symm h]

/-- The written byte is read back, whatever the list. -/
theorem Memory.read_write_same (m : Memory) (a : Nat) (v : Byte) : (m.write a v).read a = v := by
  by_cases h : v = unlistedByte
  · simp [Memory.write, h, Memory.read_erase_same]
  · simp [Memory.write, h, Memory.read_insert_same _ _ _ (Memory.erase_has_no_key m a)]

/-- No other byte is changed, whatever the list. -/
theorem Memory.read_write_ne (m : Memory) {a c : Nat} (v : Byte) (h : c ≠ a) : (m.write a v).read c = m.read c := by
  by_cases hv : v = unlistedByte
  · simp [Memory.write, hv, Memory.read_erase_ne m h]
  · simp [Memory.write, hv, Memory.read_insert_ne _ v h, Memory.read_erase_ne m h]

/-! ### The canonical form -/

theorem Memory.wfFrom_mono {lo lo' : Nat} {m : Memory} (hle : lo' ≤ lo) (h : Memory.wfFrom lo m = true) :
    Memory.wfFrom lo' m = true := by
  cases m with
  | nil => rfl
  | cons cell rest =>
    obtain ⟨k, b⟩ := cell
    simp only [Memory.wfFrom, Bool.and_eq_true, decide_eq_true_eq] at h ⊢
    exact ⟨⟨⟨by omega, h.1.1.2⟩, h.1.2⟩, h.2⟩

theorem Memory.wfFrom_erase (m : Memory) (a : Nat) :
    ∀ lo, Memory.wfFrom lo m = true → Memory.wfFrom lo (m.erase a) = true := by
  induction m with
  | nil => intro lo h; rfl
  | cons cell rest ih =>
    obtain ⟨k, b⟩ := cell
    intro lo h
    simp only [Memory.wfFrom, Bool.and_eq_true, decide_eq_true_eq] at h
    by_cases hk : k = a
    · simp only [Memory.erase, hk, if_true]
      exact Memory.wfFrom_mono (by omega) (ih _ h.2)
    · simp only [Memory.erase, hk, if_false, Memory.wfFrom, Bool.and_eq_true, decide_eq_true_eq]
      exact ⟨h.1, ih _ h.2⟩

theorem Memory.wfFrom_insert (m : Memory) (a : Nat) (v : Byte) (ha : a < 65536) (hv : v ≠ unlistedByte) :
    ∀ lo, lo ≤ a → (∀ cell ∈ m, cell.1 ≠ a) → Memory.wfFrom lo m = true → Memory.wfFrom lo (m.insert a v) = true := by
  induction m with
  | nil =>
    intro lo hlo _ _
    simp [Memory.insert, Memory.wfFrom, hlo, ha, hv]
  | cons cell rest ih =>
    obtain ⟨k, b⟩ := cell
    intro lo hlo hne h
    have hk : k ≠ a := hne (k, b) (by simp)
    simp only [Memory.wfFrom, Bool.and_eq_true, decide_eq_true_eq] at h
    by_cases hlt : a < k
    · simp only [Memory.insert, hlt, if_true, Memory.wfFrom, Bool.and_eq_true, decide_eq_true_eq]
      exact ⟨⟨⟨hlo, ha⟩, by simpa using hv⟩, ⟨⟨by omega, h.1.1.2⟩, h.1.2⟩, h.2⟩
    · simp only [Memory.insert, hlt, if_false, Memory.wfFrom, Bool.and_eq_true, decide_eq_true_eq]
      exact ⟨h.1, ih _ (by omega) (fun cell hc => hne cell (by simp [hc])) h.2⟩

/-- A write at an address of the space keeps the canonical form. -/
theorem Memory.wf_write {m : Memory} (a : Nat) (v : Byte) (ha : a < 65536) (h : m.wf = true) : (m.write a v).wf = true := by
  by_cases hv : v = unlistedByte
  · simpa [Memory.wf, Memory.write, hv] using Memory.wfFrom_erase m a 0 h
  · simpa [Memory.wf, Memory.write, hv] using
      Memory.wfFrom_insert _ a v ha hv 0 (Nat.zero_le a) (Memory.erase_has_no_key m a) (Memory.wfFrom_erase m a 0 h)

/-- The canonical form of memory after power-on. -/
theorem State.reset_mem_wf : State.reset.mem.wf = true := rfl

/-! ### Bytes of the state -/

theorem readByte_writeByte_same (s : State) (a : Word) (v : Byte) : readByte (writeByte s a v) a = v :=
  Memory.read_write_same _ _ _

theorem readByte_writeByte_ne (s : State) {a c : Word} (v : Byte) (h : c ≠ a) :
    readByte (writeByte s a v) c = readByte s c :=
  Memory.read_write_ne _ v fun he => h (BitVec.eq_of_toNat_eq he)

/-- Every write of the machine keeps the canonical form. -/
theorem writeByte_mem_wf {s : State} (a : Word) (v : Byte) (h : s.mem.wf = true) : (writeByte s a v).mem.wf = true :=
  Memory.wf_write _ v a.isLt h

/-- Reading depends on memory alone. -/
theorem readByte_congr {s t : State} (h : t.mem = s.mem) (a : Word) : readByte t a = readByte s a := by
  simp [readByte, h]

theorem read16_congr {s t : State} (h : t.mem = s.mem) (a : Word) : read16 t a = read16 s a := by
  simp [read16, readByte, h]

end Sys2Proof.Machine
end

