-- ==== Sys2Proof/Laws/Ops.lean ====
section
/-! SUPPORT. What the stack, interrupt entry and the return from it do, field by field. -/

namespace Sys2Proof.Machine

/-! ### Stack addresses -/

theorem stackAddr_toNat (sp : Byte) : (stackAddr sp).toNat = 256 + sp.toNat := by
  simp [stackAddr, joinBytes_toNat]

theorem stackAddr_inj {p q : Byte} : stackAddr p = stackAddr q ↔ p = q := by
  constructor
  · intro h
    have := congrArg BitVec.toNat h
    rw [stackAddr_toNat, stackAddr_toNat] at this
    exact BitVec.eq_of_toNat_eq (by omega)
  · rintro rfl; rfl

/-! ### Push -/

/-- All that a push changes (41_stack.md R100). -/
theorem push_eq (v : Byte) (s : State) :
    push v s = { s with sp := s.sp - 1, mem := s.mem.write (stackAddr s.sp).toNat v } := rfl

theorem readByte_push_same (v : Byte) (s : State) : readByte (push v s) (stackAddr s.sp) = v :=
  readByte_writeByte_same s _ v

theorem readByte_push_ne (v : Byte) (s : State) {a : Word} (h : a ≠ stackAddr s.sp) :
    readByte (push v s) a = readByte s a :=
  readByte_writeByte_ne s v h

theorem push_mem_wf {s : State} (v : Byte) (h : s.mem.wf = true) : (push v s).mem.wf = true :=
  writeByte_mem_wf _ v h

/-- All that a 16-bit push changes (R102). -/
theorem push16_eq (v : Word) (s : State) :
    push16 v s = { s with
      sp := s.sp - 2
      mem := (s.mem.write (stackAddr s.sp).toNat (highByte v)).write (stackAddr (s.sp - 1)).toNat (lowByte v) } := by
  have h : s.sp - 1 - 1 = s.sp - 2 := by rw [BitVec.sub_sub]; rfl
  simp only [push16, push_eq, h]

theorem push16_mem_wf {s : State} (v : Word) (h : s.mem.wf = true) : (push16 v s).mem.wf = true :=
  push_mem_wf _ (push_mem_wf _ h)

theorem readByte_push16_high (v : Word) (s : State) : readByte (push16 v s) (stackAddr s.sp) = highByte v := by
  have h : stackAddr s.sp ≠ stackAddr (push (highByte v) s).sp := by
    rw [Ne, stackAddr_inj, push_eq]
    bv_omega
  rw [push16, readByte_push_ne _ _ h, readByte_push_same]

theorem readByte_push16_low (v : Word) (s : State) : readByte (push16 v s) (stackAddr (s.sp - 1)) = lowByte v :=
  readByte_push_same (lowByte v) (push (highByte v) s)

theorem readByte_push16_ne (v : Word) (s : State) {a : Word} (h0 : a ≠ stackAddr s.sp) (h1 : a ≠ stackAddr (s.sp - 1)) :
    readByte (push16 v s) a = readByte s a := by
  rw [push16, readByte_push_ne (lowByte v) (push (highByte v) s) h1, readByte_push_ne _ _ h0]

/-! ### Pop -/

/-- All that a pop changes (R101). -/
theorem pop_eq (s : State) : pop s = (readByte s (stackAddr (s.sp + 1)), { s with sp := s.sp + 1 }) := rfl

/-- All that a 16-bit pop changes (R103). -/
theorem pop16_eq (s : State) :
    pop16 s = (joinBytes (readByte s (stackAddr (s.sp + 2))) (readByte s (stackAddr (s.sp + 1))), { s with sp := s.sp + 2 }) := by
  have h : s.sp + 1 + 1 = s.sp + 2 := by rw [BitVec.add_assoc]; rfl
  simp only [pop16, pop_eq, h]
  rfl

/-! ### Interrupt entry and return -/

/-- All that an interrupt entry changes (60_exceptions.md R186). -/
theorem interruptEntry_eq (vec : Word) (brk : Bool) (s : State) :
    interruptEntry vec brk s = { s with
      pc := read16 (push (statusByte brk s.flags) (push16 s.pc s)) vec
      sp := s.sp - 3
      flags := { s.flags with i := s.flags.i || s.params.entrySetsI }
      mem := (push (statusByte brk s.flags) (push16 s.pc s)).mem } := by
  have h : s.sp - 2#8 - 1#8 = s.sp - 3#8 := by rw [BitVec.sub_sub]; rfl
  cases hp : s.params.entrySetsI <;>
    simp [interruptEntry, push_eq, push16_eq, hp, h, State.setPC, State.setFlags, Flags.setI, read16, readByte]

theorem interruptEntry_mem_wf {s : State} (vec : Word) (brk : Bool) (h : s.mem.wf = true) :
    (interruptEntry vec brk s).mem.wf = true := by
  rw [interruptEntry_eq]
  exact push_mem_wf _ (push16_mem_wf _ h)

/-- All that RTI's body changes (47_system.md R176). -/
theorem returnFromInterrupt_eq (s : State) :
    returnFromInterrupt s = { s with
      pc := joinBytes (readByte s (stackAddr (s.sp + 3))) (readByte s (stackAddr (s.sp + 2)))
      sp := s.sp + 3
      flags := flagsOfByte (readByte s (stackAddr (s.sp + 1))) } := by
  have h2 : s.sp + 1#8 + 1#8 = s.sp + 2#8 := by rw [BitVec.add_assoc]; rfl
  have h3 : s.sp + 1#8 + 2#8 = s.sp + 3#8 := by rw [BitVec.add_assoc]; rfl
  simp [returnFromInterrupt, pop16_eq, pop_eq, h2, h3, State.setPC, State.setFlags, readByte]

end Sys2Proof.Machine
end

