-- ==== Sys2Proof/Laws/Operands.lean ====
section
/-! SUPPORT. What operand resolution and the shared instruction shapes change. -/

namespace Sys2Proof.Machine

/-! ### Resolution -/

/-- All that a resolution changes: PC and `page_crossed` (40_addressing.md R80). -/
theorem consume_eq (count : Nat) (c : Bool) (s : State) :
    consume count c s = { s with pc := s.pc + BitVec.ofNat 16 count, pageCrossed := c } := rfl

theorem consume_pc (count : Nat) (c : Bool) (s : State) : (consume count c s).pc = s.pc + BitVec.ofNat 16 count := rfl
theorem consume_pageCrossed (count : Nat) (c : Bool) (s : State) : (consume count c s).pageCrossed = c := rfl
theorem consume_mem (count : Nat) (c : Bool) (s : State) : (consume count c s).mem = s.mem := rfl

theorem resolve_eq (m : AddrMode) (s : State) :
    resolve m s = (effectiveAddr m s,
      { s with pc := s.pc + BitVec.ofNat 16 m.operandBytes, pageCrossed := addrCrossed m s }) := rfl

theorem resolveNone_eq (s : State) : resolveNone s = { s with pc := s.pc + 0, pageCrossed := false } := rfl

/-- How many operand bytes a source consumes. -/
def Source.operandBytes : Source → Nat
  | .immediate _ => 1
  | .memory m => m.operandBytes

/-- Loading an operand changes PC and `page_crossed` alone. -/
theorem loadSource_state (src : Source) (s : State) :
    (loadSource src s).2 =
      { s with pc := s.pc + BitVec.ofNat 16 src.operandBytes, pageCrossed := (loadSource src s).2.pageCrossed } := by
  cases src <;> rfl

theorem loadSource_mem (src : Source) (s : State) : (loadSource src s).2.mem = s.mem := by
  rw [loadSource_state]

/-- PC past the opcode and `n` operand bytes is PC plus the length. -/
theorem pc_past (pc : Word) (n : Nat) : pc + 1 + BitVec.ofNat 16 n = pc + BitVec.ofNat 16 (1 + n) := by
  rw [BitVec.add_assoc, BitVec.ofNat_add]; rfl

/-! ### Instruction shapes -/

/-- Everything a reading instruction does: its body on the operand, in the state after the resolution, and its cycles. -/
theorem readInstr_eq (opcode : Byte) (body : Byte → State → State) (src : Source) (s : State) :
    readInstr opcode body src s =
      (body (loadSource src (fetchOpcode s)).1 (loadSource src (fetchOpcode s)).2).addCycles
        (baseCycles opcode + (loadSource src (fetchOpcode s)).2.pageCrossed.toNat) := rfl

/-- Everything a store does. -/
theorem storeInstr_eq (opcode : Byte) (value : State → Byte) (m : AddrMode) (s : State) :
    storeInstr opcode value m s =
      (writeByte (resolve m (fetchOpcode s)).2 (effectiveAddr m (fetchOpcode s))
        (value (resolve m (fetchOpcode s)).2)).addCycles (baseCycles opcode) := rfl

/-- A reading instruction whose body leaves memory alone leaves memory alone. -/
theorem readInstr_mem {body : Byte → State → State} (h : ∀ v s, (body v s).mem = s.mem) (opcode : Byte) (src : Source)
    (s : State) : (readInstr opcode body src s).mem = s.mem := by
  rw [readInstr_eq, State.addCycles_mem, h, loadSource_mem]
  rfl

/-- A one-byte instruction whose body leaves memory alone leaves memory alone. -/
theorem impliedInstr_mem {body : State → State} (h : ∀ s, (body s).mem = s.mem) (opcode : Byte) (s : State) :
    (impliedInstr opcode body s).mem = s.mem := by
  rw [impliedInstr, State.addCycles_mem, h]
  rfl

theorem branchInstr_mem (opcode : Byte) (cond : Flags → Bool) (rr : Byte) (s : State) :
    (branchInstr opcode cond rr s).mem = s.mem := by
  unfold branchInstr
  dsimp only
  split <;> rfl

theorem jumpInstr_mem (opcode : Byte) (m : AddrMode) (s : State) : (jumpInstr opcode m s).mem = s.mem := rfl

/-- A store keeps the canonical form. -/
theorem storeInstr_mem_wf {s : State} (opcode : Byte) (value : State → Byte) (m : AddrMode) (h : s.mem.wf = true) :
    (storeInstr opcode value m s).mem.wf = true :=
  writeByte_mem_wf (s := (resolve m (fetchOpcode s)).2) _ _ h

/-- A read-modify-write instruction keeps the canonical form. -/
theorem modifyInstr_mem_wf {s : State} (opcode : Byte) (op : Byte → Flags → Byte × Flags) (target : Target)
    (h : s.mem.wf = true) : (modifyInstr opcode op target s).mem.wf = true := by
  cases target with
  | accumulator => exact h
  | memory m => exact writeByte_mem_wf (s := (resolve m (fetchOpcode s)).2) _ _ h

end Sys2Proof.Machine
end

