-- ==== Sys2Proof/Laws/PerInstr.lean ====
section
/-! SUPPORT. For every instruction: its opcode byte alone fixes its length (spec/30_encoding.md R66). -/

namespace Sys2Proof.Laws.LengthFromOpcode

/-- The first byte of the encoding selects a row of the opcode map, and that row's length is the encoding's length. -/
def Statement (i : Instr) : Prop :=
  ∃ opcode operands shape, encode i = opcode :: operands ∧ opcodeMap opcode = some shape ∧ (encode i).length = shape.length

theorem adcIndX (zz : Byte) : Statement (.adcIndX zz) := ⟨_, _, _, rfl, rfl, rfl⟩
theorem adcZp (zz : Byte) : Statement (.adcZp zz) := ⟨_, _, _, rfl, rfl, rfl⟩
theorem adcImm (nn : Byte) : Statement (.adcImm nn) := ⟨_, _, _, rfl, rfl, rfl⟩
theorem adcAbs (hhll : Word) : Statement (.adcAbs hhll) := ⟨_, _, _, rfl, rfl, rfl⟩
theorem adcIndY (zz : Byte) : Statement (.adcIndY zz) := ⟨_, _, _, rfl, rfl, rfl⟩
theorem adcZpX (zz : Byte) : Statement (.adcZpX zz) := ⟨_, _, _, rfl, rfl, rfl⟩
theorem adcAbsY (hhll : Word) : Statement (.adcAbsY hhll) := ⟨_, _, _, rfl, rfl, rfl⟩
theorem adcAbsX (hhll : Word) : Statement (.adcAbsX hhll) := ⟨_, _, _, rfl, rfl, rfl⟩
theorem sbcIndX (zz : Byte) : Statement (.sbcIndX zz) := ⟨_, _, _, rfl, rfl, rfl⟩
theorem sbcZp (zz : Byte) : Statement (.sbcZp zz) := ⟨_, _, _, rfl, rfl, rfl⟩
theorem sbcImm (nn : Byte) : Statement (.sbcImm nn) := ⟨_, _, _, rfl, rfl, rfl⟩
theorem sbcAbs (hhll : Word) : Statement (.sbcAbs hhll) := ⟨_, _, _, rfl, rfl, rfl⟩
theorem sbcIndY (zz : Byte) : Statement (.sbcIndY zz) := ⟨_, _, _, rfl, rfl, rfl⟩
theorem sbcZpX (zz : Byte) : Statement (.sbcZpX zz) := ⟨_, _, _, rfl, rfl, rfl⟩
theorem sbcAbsY (hhll : Word) : Statement (.sbcAbsY hhll) := ⟨_, _, _, rfl, rfl, rfl⟩
theorem sbcAbsX (hhll : Word) : Statement (.sbcAbsX hhll) := ⟨_, _, _, rfl, rfl, rfl⟩
theorem andIndX (zz : Byte) : Statement (.andIndX zz) := ⟨_, _, _, rfl, rfl, rfl⟩
theorem andZp (zz : Byte) : Statement (.andZp zz) := ⟨_, _, _, rfl, rfl, rfl⟩
theorem andImm (nn : Byte) : Statement (.andImm nn) := ⟨_, _, _, rfl, rfl, rfl⟩
theorem andAbs (hhll : Word) : Statement (.andAbs hhll) := ⟨_, _, _, rfl, rfl, rfl⟩
theorem andIndY (zz : Byte) : Statement (.andIndY zz) := ⟨_, _, _, rfl, rfl, rfl⟩
theorem andZpX (zz : Byte) : Statement (.andZpX zz) := ⟨_, _, _, rfl, rfl, rfl⟩
theorem andAbsY (hhll : Word) : Statement (.andAbsY hhll) := ⟨_, _, _, rfl, rfl, rfl⟩
theorem andAbsX (hhll : Word) : Statement (.andAbsX hhll) := ⟨_, _, _, rfl, rfl, rfl⟩
theorem oraIndX (zz : Byte) : Statement (.oraIndX zz) := ⟨_, _, _, rfl, rfl, rfl⟩
theorem oraZp (zz : Byte) : Statement (.oraZp zz) := ⟨_, _, _, rfl, rfl, rfl⟩
theorem oraImm (nn : Byte) : Statement (.oraImm nn) := ⟨_, _, _, rfl, rfl, rfl⟩
theorem oraAbs (hhll : Word) : Statement (.oraAbs hhll) := ⟨_, _, _, rfl, rfl, rfl⟩
theorem oraIndY (zz : Byte) : Statement (.oraIndY zz) := ⟨_, _, _, rfl, rfl, rfl⟩
theorem oraZpX (zz : Byte) : Statement (.oraZpX zz) := ⟨_, _, _, rfl, rfl, rfl⟩
theorem oraAbsY (hhll : Word) : Statement (.oraAbsY hhll) := ⟨_, _, _, rfl, rfl, rfl⟩
theorem oraAbsX (hhll : Word) : Statement (.oraAbsX hhll) := ⟨_, _, _, rfl, rfl, rfl⟩
theorem eorIndX (zz : Byte) : Statement (.eorIndX zz) := ⟨_, _, _, rfl, rfl, rfl⟩
theorem eorZp (zz : Byte) : Statement (.eorZp zz) := ⟨_, _, _, rfl, rfl, rfl⟩
theorem eorImm (nn : Byte) : Statement (.eorImm nn) := ⟨_, _, _, rfl, rfl, rfl⟩
theorem eorAbs (hhll : Word) : Statement (.eorAbs hhll) := ⟨_, _, _, rfl, rfl, rfl⟩
theorem eorIndY (zz : Byte) : Statement (.eorIndY zz) := ⟨_, _, _, rfl, rfl, rfl⟩
theorem eorZpX (zz : Byte) : Statement (.eorZpX zz) := ⟨_, _, _, rfl, rfl, rfl⟩
theorem eorAbsY (hhll : Word) : Statement (.eorAbsY hhll) := ⟨_, _, _, rfl, rfl, rfl⟩
theorem eorAbsX (hhll : Word) : Statement (.eorAbsX hhll) := ⟨_, _, _, rfl, rfl, rfl⟩
theorem cmpIndX (zz : Byte) : Statement (.cmpIndX zz) := ⟨_, _, _, rfl, rfl, rfl⟩
theorem cmpZp (zz : Byte) : Statement (.cmpZp zz) := ⟨_, _, _, rfl, rfl, rfl⟩
theorem cmpImm (nn : Byte) : Statement (.cmpImm nn) := ⟨_, _, _, rfl, rfl, rfl⟩
theorem cmpAbs (hhll : Word) : Statement (.cmpAbs hhll) := ⟨_, _, _, rfl, rfl, rfl⟩
theorem cmpIndY (zz : Byte) : Statement (.cmpIndY zz) := ⟨_, _, _, rfl, rfl, rfl⟩
theorem cmpZpX (zz : Byte) : Statement (.cmpZpX zz) := ⟨_, _, _, rfl, rfl, rfl⟩
theorem cmpAbsY (hhll : Word) : Statement (.cmpAbsY hhll) := ⟨_, _, _, rfl, rfl, rfl⟩
theorem cmpAbsX (hhll : Word) : Statement (.cmpAbsX hhll) := ⟨_, _, _, rfl, rfl, rfl⟩
theorem cpxImm (nn : Byte) : Statement (.cpxImm nn) := ⟨_, _, _, rfl, rfl, rfl⟩
theorem cpxZp (zz : Byte) : Statement (.cpxZp zz) := ⟨_, _, _, rfl, rfl, rfl⟩
theorem cpxAbs (hhll : Word) : Statement (.cpxAbs hhll) := ⟨_, _, _, rfl, rfl, rfl⟩
theorem cpyImm (nn : Byte) : Statement (.cpyImm nn) := ⟨_, _, _, rfl, rfl, rfl⟩
theorem cpyZp (zz : Byte) : Statement (.cpyZp zz) := ⟨_, _, _, rfl, rfl, rfl⟩
theorem cpyAbs (hhll : Word) : Statement (.cpyAbs hhll) := ⟨_, _, _, rfl, rfl, rfl⟩
theorem bitZp (zz : Byte) : Statement (.bitZp zz) := ⟨_, _, _, rfl, rfl, rfl⟩
theorem bitAbs (hhll : Word) : Statement (.bitAbs hhll) := ⟨_, _, _, rfl, rfl, rfl⟩
theorem incZp (zz : Byte) : Statement (.incZp zz) := ⟨_, _, _, rfl, rfl, rfl⟩
theorem incAbs (hhll : Word) : Statement (.incAbs hhll) := ⟨_, _, _, rfl, rfl, rfl⟩
theorem incZpX (zz : Byte) : Statement (.incZpX zz) := ⟨_, _, _, rfl, rfl, rfl⟩
theorem incAbsX (hhll : Word) : Statement (.incAbsX hhll) := ⟨_, _, _, rfl, rfl, rfl⟩
theorem decZp (zz : Byte) : Statement (.decZp zz) := ⟨_, _, _, rfl, rfl, rfl⟩
theorem decAbs (hhll : Word) : Statement (.decAbs hhll) := ⟨_, _, _, rfl, rfl, rfl⟩
theorem decZpX (zz : Byte) : Statement (.decZpX zz) := ⟨_, _, _, rfl, rfl, rfl⟩
theorem decAbsX (hhll : Word) : Statement (.decAbsX hhll) := ⟨_, _, _, rfl, rfl, rfl⟩
theorem inx : Statement (.inx) := ⟨_, _, _, rfl, rfl, rfl⟩
theorem iny : Statement (.iny) := ⟨_, _, _, rfl, rfl, rfl⟩
theorem dex : Statement (.dex) := ⟨_, _, _, rfl, rfl, rfl⟩
theorem dey : Statement (.dey) := ⟨_, _, _, rfl, rfl, rfl⟩
theorem aslZp (zz : Byte) : Statement (.aslZp zz) := ⟨_, _, _, rfl, rfl, rfl⟩
theorem aslAcc : Statement (.aslAcc) := ⟨_, _, _, rfl, rfl, rfl⟩
theorem aslAbs (hhll : Word) : Statement (.aslAbs hhll) := ⟨_, _, _, rfl, rfl, rfl⟩
theorem aslZpX (zz : Byte) : Statement (.aslZpX zz) := ⟨_, _, _, rfl, rfl, rfl⟩
theorem aslAbsX (hhll : Word) : Statement (.aslAbsX hhll) := ⟨_, _, _, rfl, rfl, rfl⟩
theorem lsrZp (zz : Byte) : Statement (.lsrZp zz) := ⟨_, _, _, rfl, rfl, rfl⟩
theorem lsrAcc : Statement (.lsrAcc) := ⟨_, _, _, rfl, rfl, rfl⟩
theorem lsrAbs (hhll : Word) : Statement (.lsrAbs hhll) := ⟨_, _, _, rfl, rfl, rfl⟩
theorem lsrZpX (zz : Byte) : Statement (.lsrZpX zz) := ⟨_, _, _, rfl, rfl, rfl⟩
theorem lsrAbsX (hhll : Word) : Statement (.lsrAbsX hhll) := ⟨_, _, _, rfl, rfl, rfl⟩
theorem rolZp (zz : Byte) : Statement (.rolZp zz) := ⟨_, _, _, rfl, rfl, rfl⟩
theorem rolAcc : Statement (.rolAcc) := ⟨_, _, _, rfl, rfl, rfl⟩
theorem rolAbs (hhll : Word) : Statement (.rolAbs hhll) := ⟨_, _, _, rfl, rfl, rfl⟩
theorem rolZpX (zz : Byte) : Statement (.rolZpX zz) := ⟨_, _, _, rfl, rfl, rfl⟩
theorem rolAbsX (hhll : Word) : Statement (.rolAbsX hhll) := ⟨_, _, _, rfl, rfl, rfl⟩
theorem rorZp (zz : Byte) : Statement (.rorZp zz) := ⟨_, _, _, rfl, rfl, rfl⟩
theorem rorAcc : Statement (.rorAcc) := ⟨_, _, _, rfl, rfl, rfl⟩
theorem rorAbs (hhll : Word) : Statement (.rorAbs hhll) := ⟨_, _, _, rfl, rfl, rfl⟩
theorem rorZpX (zz : Byte) : Statement (.rorZpX zz) := ⟨_, _, _, rfl, rfl, rfl⟩
theorem rorAbsX (hhll : Word) : Statement (.rorAbsX hhll) := ⟨_, _, _, rfl, rfl, rfl⟩
theorem ldaIndX (zz : Byte) : Statement (.ldaIndX zz) := ⟨_, _, _, rfl, rfl, rfl⟩
theorem ldaZp (zz : Byte) : Statement (.ldaZp zz) := ⟨_, _, _, rfl, rfl, rfl⟩
theorem ldaImm (nn : Byte) : Statement (.ldaImm nn) := ⟨_, _, _, rfl, rfl, rfl⟩
theorem ldaAbs (hhll : Word) : Statement (.ldaAbs hhll) := ⟨_, _, _, rfl, rfl, rfl⟩
theorem ldaIndY (zz : Byte) : Statement (.ldaIndY zz) := ⟨_, _, _, rfl, rfl, rfl⟩
theorem ldaZpX (zz : Byte) : Statement (.ldaZpX zz) := ⟨_, _, _, rfl, rfl, rfl⟩
theorem ldaAbsY (hhll : Word) : Statement (.ldaAbsY hhll) := ⟨_, _, _, rfl, rfl, rfl⟩
theorem ldaAbsX (hhll : Word) : Statement (.ldaAbsX hhll) := ⟨_, _, _, rfl, rfl, rfl⟩
theorem ldxImm (nn : Byte) : Statement (.ldxImm nn) := ⟨_, _, _, rfl, rfl, rfl⟩
theorem ldxZp (zz : Byte) : Statement (.ldxZp zz) := ⟨_, _, _, rfl, rfl, rfl⟩
theorem ldxAbs (hhll : Word) : Statement (.ldxAbs hhll) := ⟨_, _, _, rfl, rfl, rfl⟩
theorem ldxZpY (zz : Byte) : Statement (.ldxZpY zz) := ⟨_, _, _, rfl, rfl, rfl⟩
theorem ldxAbsY (hhll : Word) : Statement (.ldxAbsY hhll) := ⟨_, _, _, rfl, rfl, rfl⟩
theorem ldyImm (nn : Byte) : Statement (.ldyImm nn) := ⟨_, _, _, rfl, rfl, rfl⟩
theorem ldyZp (zz : Byte) : Statement (.ldyZp zz) := ⟨_, _, _, rfl, rfl, rfl⟩
theorem ldyAbs (hhll : Word) : Statement (.ldyAbs hhll) := ⟨_, _, _, rfl, rfl, rfl⟩
theorem ldyZpX (zz : Byte) : Statement (.ldyZpX zz) := ⟨_, _, _, rfl, rfl, rfl⟩
theorem ldyAbsX (hhll : Word) : Statement (.ldyAbsX hhll) := ⟨_, _, _, rfl, rfl, rfl⟩
theorem staIndX (zz : Byte) : Statement (.staIndX zz) := ⟨_, _, _, rfl, rfl, rfl⟩
theorem staZp (zz : Byte) : Statement (.staZp zz) := ⟨_, _, _, rfl, rfl, rfl⟩
theorem staAbs (hhll : Word) : Statement (.staAbs hhll) := ⟨_, _, _, rfl, rfl, rfl⟩
theorem staIndY (zz : Byte) : Statement (.staIndY zz) := ⟨_, _, _, rfl, rfl, rfl⟩
theorem staZpX (zz : Byte) : Statement (.staZpX zz) := ⟨_, _, _, rfl, rfl, rfl⟩
theorem staAbsY (hhll : Word) : Statement (.staAbsY hhll) := ⟨_, _, _, rfl, rfl, rfl⟩
theorem staAbsX (hhll : Word) : Statement (.staAbsX hhll) := ⟨_, _, _, rfl, rfl, rfl⟩
theorem stxZp (zz : Byte) : Statement (.stxZp zz) := ⟨_, _, _, rfl, rfl, rfl⟩
theorem stxAbs (hhll : Word) : Statement (.stxAbs hhll) := ⟨_, _, _, rfl, rfl, rfl⟩
theorem stxZpY (zz : Byte) : Statement (.stxZpY zz) := ⟨_, _, _, rfl, rfl, rfl⟩
theorem styZp (zz : Byte) : Statement (.styZp zz) := ⟨_, _, _, rfl, rfl, rfl⟩
theorem styAbs (hhll : Word) : Statement (.styAbs hhll) := ⟨_, _, _, rfl, rfl, rfl⟩
theorem styZpX (zz : Byte) : Statement (.styZpX zz) := ⟨_, _, _, rfl, rfl, rfl⟩
theorem tax : Statement (.tax) := ⟨_, _, _, rfl, rfl, rfl⟩
theorem tay : Statement (.tay) := ⟨_, _, _, rfl, rfl, rfl⟩
theorem txa : Statement (.txa) := ⟨_, _, _, rfl, rfl, rfl⟩
theorem tya : Statement (.tya) := ⟨_, _, _, rfl, rfl, rfl⟩
theorem tsx : Statement (.tsx) := ⟨_, _, _, rfl, rfl, rfl⟩
theorem txs : Statement (.txs) := ⟨_, _, _, rfl, rfl, rfl⟩
theorem jmpAbs (hhll : Word) : Statement (.jmpAbs hhll) := ⟨_, _, _, rfl, rfl, rfl⟩
theorem jmpInd (ptr : Word) : Statement (.jmpInd ptr) := ⟨_, _, _, rfl, rfl, rfl⟩
theorem bcc (rr : Byte) : Statement (.bcc rr) := ⟨_, _, _, rfl, rfl, rfl⟩
theorem bcs (rr : Byte) : Statement (.bcs rr) := ⟨_, _, _, rfl, rfl, rfl⟩
theorem beq (rr : Byte) : Statement (.beq rr) := ⟨_, _, _, rfl, rfl, rfl⟩
theorem bmi (rr : Byte) : Statement (.bmi rr) := ⟨_, _, _, rfl, rfl, rfl⟩
theorem bne (rr : Byte) : Statement (.bne rr) := ⟨_, _, _, rfl, rfl, rfl⟩
theorem bpl (rr : Byte) : Statement (.bpl rr) := ⟨_, _, _, rfl, rfl, rfl⟩
theorem bvc (rr : Byte) : Statement (.bvc rr) := ⟨_, _, _, rfl, rfl, rfl⟩
theorem bvs (rr : Byte) : Statement (.bvs rr) := ⟨_, _, _, rfl, rfl, rfl⟩
theorem jsr (hhll : Word) : Statement (.jsr hhll) := ⟨_, _, _, rfl, rfl, rfl⟩
theorem rts : Statement (.rts) := ⟨_, _, _, rfl, rfl, rfl⟩
theorem clc : Statement (.clc) := ⟨_, _, _, rfl, rfl, rfl⟩
theorem cld : Statement (.cld) := ⟨_, _, _, rfl, rfl, rfl⟩
theorem cli : Statement (.cli) := ⟨_, _, _, rfl, rfl, rfl⟩
theorem clv : Statement (.clv) := ⟨_, _, _, rfl, rfl, rfl⟩
theorem sec : Statement (.sec) := ⟨_, _, _, rfl, rfl, rfl⟩
theorem sed : Statement (.sed) := ⟨_, _, _, rfl, rfl, rfl⟩
theorem sei : Statement (.sei) := ⟨_, _, _, rfl, rfl, rfl⟩
theorem pha : Statement (.pha) := ⟨_, _, _, rfl, rfl, rfl⟩
theorem php : Statement (.php) := ⟨_, _, _, rfl, rfl, rfl⟩
theorem pla : Statement (.pla) := ⟨_, _, _, rfl, rfl, rfl⟩
theorem plp : Statement (.plp) := ⟨_, _, _, rfl, rfl, rfl⟩
theorem nop : Statement (.nop) := ⟨_, _, _, rfl, rfl, rfl⟩
theorem brk : Statement (.brk) := ⟨_, _, _, rfl, rfl, rfl⟩
theorem rti : Statement (.rti) := ⟨_, _, _, rfl, rfl, rfl⟩

end Sys2Proof.Laws.LengthFromOpcode
end

