-- ==== Sys2Proof/Laws/Shapes.lean ====
section
/-! SUPPORT. Every instruction is one of seven shapes: said once here, so that a proof over all instructions needs a case per shape, not
one per instruction. -/

namespace Sys2Proof.Machine

/-- What an instruction does, as one call of a shared operation of Machine/Execute.lean. -/
inductive ExecShape where
  /-- `readInstr`. -/
  | read (opcode : Byte) (body : Byte → State → State) (src : Source)
  /-- `storeInstr`. -/
  | store (opcode : Byte) (value : State → Byte) (m : AddrMode)
  /-- `modifyInstr`. -/
  | modify (opcode : Byte) (op : Byte → Flags → Byte × Flags) (target : Target)
  /-- `impliedInstr`. -/
  | implied (opcode : Byte) (body : State → State)
  /-- `branchInstr`. -/
  | branch (opcode : Byte) (cond : Flags → Bool) (rr : Byte)
  /-- `jumpInstr`. -/
  | jump (opcode : Byte) (m : AddrMode)
  /-- JSR. -/
  | call (hhll : Word)

/-- The state a shape leaves. -/
def ExecShape.run : ExecShape → State → State
  | .read opcode body src, s => readInstr opcode body src s
  | .store opcode value m, s => storeInstr opcode value m s
  | .modify opcode op target, s => modifyInstr opcode op target s
  | .implied opcode body, s => impliedInstr opcode body s
  | .branch opcode cond rr, s => branchInstr opcode cond rr s
  | .jump opcode m, s => jumpInstr opcode m s
  | .call hhll, s =>
    (callSubroutine hhll (resolve (.absolute hhll) (fetchOpcode s)).2).addCycles (baseCycles 0x20)

/-- The shape of an instruction. -/
def execShape : Instr → ExecShape
  | .adcIndX zz => .read 0x61 addToA (.memory (.indirectX zz))
  | .adcZp zz => .read 0x65 addToA (.memory (.zeroPage zz))
  | .adcImm nn => .read 0x69 addToA (.immediate nn)
  | .adcAbs hhll => .read 0x6D addToA (.memory (.absolute hhll))
  | .adcIndY zz => .read 0x71 addToA (.memory (.indirectY zz))
  | .adcZpX zz => .read 0x75 addToA (.memory (.zeroPageX zz))
  | .adcAbsY hhll => .read 0x79 addToA (.memory (.absoluteY hhll))
  | .adcAbsX hhll => .read 0x7D addToA (.memory (.absoluteX hhll))
  | .sbcIndX zz => .read 0xE1 subFromA (.memory (.indirectX zz))
  | .sbcZp zz => .read 0xE5 subFromA (.memory (.zeroPage zz))
  | .sbcImm nn => .read 0xE9 subFromA (.immediate nn)
  | .sbcAbs hhll => .read 0xED subFromA (.memory (.absolute hhll))
  | .sbcIndY zz => .read 0xF1 subFromA (.memory (.indirectY zz))
  | .sbcZpX zz => .read 0xF5 subFromA (.memory (.zeroPageX zz))
  | .sbcAbsY hhll => .read 0xF9 subFromA (.memory (.absoluteY hhll))
  | .sbcAbsX hhll => .read 0xFD subFromA (.memory (.absoluteX hhll))
  | .andIndX zz => .read 0x21 andWithA (.memory (.indirectX zz))
  | .andZp zz => .read 0x25 andWithA (.memory (.zeroPage zz))
  | .andImm nn => .read 0x29 andWithA (.immediate nn)
  | .andAbs hhll => .read 0x2D andWithA (.memory (.absolute hhll))
  | .andIndY zz => .read 0x31 andWithA (.memory (.indirectY zz))
  | .andZpX zz => .read 0x35 andWithA (.memory (.zeroPageX zz))
  | .andAbsY hhll => .read 0x39 andWithA (.memory (.absoluteY hhll))
  | .andAbsX hhll => .read 0x3D andWithA (.memory (.absoluteX hhll))
  | .oraIndX zz => .read 0x01 orWithA (.memory (.indirectX zz))
  | .oraZp zz => .read 0x05 orWithA (.memory (.zeroPage zz))
  | .oraImm nn => .read 0x09 orWithA (.immediate nn)
  | .oraAbs hhll => .read 0x0D orWithA (.memory (.absolute hhll))
  | .oraIndY zz => .read 0x11 orWithA (.memory (.indirectY zz))
  | .oraZpX zz => .read 0x15 orWithA (.memory (.zeroPageX zz))
  | .oraAbsY hhll => .read 0x19 orWithA (.memory (.absoluteY hhll))
  | .oraAbsX hhll => .read 0x1D orWithA (.memory (.absoluteX hhll))
  | .eorIndX zz => .read 0x41 xorWithA (.memory (.indirectX zz))
  | .eorZp zz => .read 0x45 xorWithA (.memory (.zeroPage zz))
  | .eorImm nn => .read 0x49 xorWithA (.immediate nn)
  | .eorAbs hhll => .read 0x4D xorWithA (.memory (.absolute hhll))
  | .eorIndY zz => .read 0x51 xorWithA (.memory (.indirectY zz))
  | .eorZpX zz => .read 0x55 xorWithA (.memory (.zeroPageX zz))
  | .eorAbsY hhll => .read 0x59 xorWithA (.memory (.absoluteY hhll))
  | .eorAbsX hhll => .read 0x5D xorWithA (.memory (.absoluteX hhll))
  | .cmpIndX zz => .read 0xC1 compareA (.memory (.indirectX zz))
  | .cmpZp zz => .read 0xC5 compareA (.memory (.zeroPage zz))
  | .cmpImm nn => .read 0xC9 compareA (.immediate nn)
  | .cmpAbs hhll => .read 0xCD compareA (.memory (.absolute hhll))
  | .cmpIndY zz => .read 0xD1 compareA (.memory (.indirectY zz))
  | .cmpZpX zz => .read 0xD5 compareA (.memory (.zeroPageX zz))
  | .cmpAbsY hhll => .read 0xD9 compareA (.memory (.absoluteY hhll))
  | .cmpAbsX hhll => .read 0xDD compareA (.memory (.absoluteX hhll))
  | .cpxImm nn => .read 0xE0 compareX (.immediate nn)
  | .cpxZp zz => .read 0xE4 compareX (.memory (.zeroPage zz))
  | .cpxAbs hhll => .read 0xEC compareX (.memory (.absolute hhll))
  | .cpyImm nn => .read 0xC0 compareY (.immediate nn)
  | .cpyZp zz => .read 0xC4 compareY (.memory (.zeroPage zz))
  | .cpyAbs hhll => .read 0xCC compareY (.memory (.absolute hhll))
  | .bitZp zz => .read 0x24 testBits (.memory (.zeroPage zz))
  | .bitAbs hhll => .read 0x2C testBits (.memory (.absolute hhll))
  | .incZp zz => .modify 0xE6 incByte (.memory (.zeroPage zz))
  | .incAbs hhll => .modify 0xEE incByte (.memory (.absolute hhll))
  | .incZpX zz => .modify 0xF6 incByte (.memory (.zeroPageX zz))
  | .incAbsX hhll => .modify 0xFE incByte (.memory (.absoluteX hhll))
  | .decZp zz => .modify 0xC6 decByte (.memory (.zeroPage zz))
  | .decAbs hhll => .modify 0xCE decByte (.memory (.absolute hhll))
  | .decZpX zz => .modify 0xD6 decByte (.memory (.zeroPageX zz))
  | .decAbsX hhll => .modify 0xDE decByte (.memory (.absoluteX hhll))
  | .inx => .implied 0xE8 (fun s => resultToX (s.x + 1) s)
  | .iny => .implied 0xC8 (fun s => resultToY (s.y + 1) s)
  | .dex => .implied 0xCA (fun s => resultToX (s.x - 1) s)
  | .dey => .implied 0x88 (fun s => resultToY (s.y - 1) s)
  | .aslZp zz => .modify 0x06 (shifted shiftAsl) (.memory (.zeroPage zz))
  | .aslAcc => .modify 0x0A (shifted shiftAsl) .accumulator
  | .aslAbs hhll => .modify 0x0E (shifted shiftAsl) (.memory (.absolute hhll))
  | .aslZpX zz => .modify 0x16 (shifted shiftAsl) (.memory (.zeroPageX zz))
  | .aslAbsX hhll => .modify 0x1E (shifted shiftAsl) (.memory (.absoluteX hhll))
  | .lsrZp zz => .modify 0x46 (shifted shiftLsr) (.memory (.zeroPage zz))
  | .lsrAcc => .modify 0x4A (shifted shiftLsr) .accumulator
  | .lsrAbs hhll => .modify 0x4E (shifted shiftLsr) (.memory (.absolute hhll))
  | .lsrZpX zz => .modify 0x56 (shifted shiftLsr) (.memory (.zeroPageX zz))
  | .lsrAbsX hhll => .modify 0x5E (shifted shiftLsr) (.memory (.absoluteX hhll))
  | .rolZp zz => .modify 0x26 (shifted shiftRol) (.memory (.zeroPage zz))
  | .rolAcc => .modify 0x2A (shifted shiftRol) .accumulator
  | .rolAbs hhll => .modify 0x2E (shifted shiftRol) (.memory (.absolute hhll))
  | .rolZpX zz => .modify 0x36 (shifted shiftRol) (.memory (.zeroPageX zz))
  | .rolAbsX hhll => .modify 0x3E (shifted shiftRol) (.memory (.absoluteX hhll))
  | .rorZp zz => .modify 0x66 (shifted shiftRor) (.memory (.zeroPage zz))
  | .rorAcc => .modify 0x6A (shifted shiftRor) .accumulator
  | .rorAbs hhll => .modify 0x6E (shifted shiftRor) (.memory (.absolute hhll))
  | .rorZpX zz => .modify 0x76 (shifted shiftRor) (.memory (.zeroPageX zz))
  | .rorAbsX hhll => .modify 0x7E (shifted shiftRor) (.memory (.absoluteX hhll))
  | .ldaIndX zz => .read 0xA1 resultToA (.memory (.indirectX zz))
  | .ldaZp zz => .read 0xA5 resultToA (.memory (.zeroPage zz))
  | .ldaImm nn => .read 0xA9 resultToA (.immediate nn)
  | .ldaAbs hhll => .read 0xAD resultToA (.memory (.absolute hhll))
  | .ldaIndY zz => .read 0xB1 resultToA (.memory (.indirectY zz))
  | .ldaZpX zz => .read 0xB5 resultToA (.memory (.zeroPageX zz))
  | .ldaAbsY hhll => .read 0xB9 resultToA (.memory (.absoluteY hhll))
  | .ldaAbsX hhll => .read 0xBD resultToA (.memory (.absoluteX hhll))
  | .ldxImm nn => .read 0xA2 resultToX (.immediate nn)
  | .ldxZp zz => .read 0xA6 resultToX (.memory (.zeroPage zz))
  | .ldxAbs hhll => .read 0xAE resultToX (.memory (.absolute hhll))
  | .ldxZpY zz => .read 0xB6 resultToX (.memory (.zeroPageY zz))
  | .ldxAbsY hhll => .read 0xBE resultToX (.memory (.absoluteY hhll))
  | .ldyImm nn => .read 0xA0 resultToY (.immediate nn)
  | .ldyZp zz => .read 0xA4 resultToY (.memory (.zeroPage zz))
  | .ldyAbs hhll => .read 0xAC resultToY (.memory (.absolute hhll))
  | .ldyZpX zz => .read 0xB4 resultToY (.memory (.zeroPageX zz))
  | .ldyAbsX hhll => .read 0xBC resultToY (.memory (.absoluteX hhll))
  | .staIndX zz => .store 0x81 State.a (.indirectX zz)
  | .staZp zz => .store 0x85 State.a (.zeroPage zz)
  | .staAbs hhll => .store 0x8D State.a (.absolute hhll)
  | .staIndY zz => .store 0x91 State.a (.indirectY zz)
  | .staZpX zz => .store 0x95 State.a (.zeroPageX zz)
  | .staAbsY hhll => .store 0x99 State.a (.absoluteY hhll)
  | .staAbsX hhll => .store 0x9D State.a (.absoluteX hhll)
  | .stxZp zz => .store 0x86 State.x (.zeroPage zz)
  | .stxAbs hhll => .store 0x8E State.x (.absolute hhll)
  | .stxZpY zz => .store 0x96 State.x (.zeroPageY zz)
  | .styZp zz => .store 0x84 State.y (.zeroPage zz)
  | .styAbs hhll => .store 0x8C State.y (.absolute hhll)
  | .styZpX zz => .store 0x94 State.y (.zeroPageX zz)
  | .tax => .implied 0xAA (fun s => resultToX s.a s)
  | .tay => .implied 0xA8 (fun s => resultToY s.a s)
  | .txa => .implied 0x8A (fun s => resultToA s.x s)
  | .tya => .implied 0x98 (fun s => resultToA s.y s)
  | .tsx => .implied 0xBA (fun s => resultToX s.sp s)
  | .txs => .implied 0x9A (fun s => s.setSP s.x)
  | .jmpAbs hhll => .jump 0x4C (.absolute hhll)
  | .jmpInd ptr => .jump 0x6C (.indirect ptr)
  | .bcc rr => .branch 0x90 (fun f => !f.c) rr
  | .bcs rr => .branch 0xB0 (fun f => f.c) rr
  | .beq rr => .branch 0xF0 (fun f => f.z) rr
  | .bmi rr => .branch 0x30 (fun f => f.n) rr
  | .bne rr => .branch 0xD0 (fun f => !f.z) rr
  | .bpl rr => .branch 0x10 (fun f => !f.n) rr
  | .bvc rr => .branch 0x50 (fun f => !f.v) rr
  | .bvs rr => .branch 0x70 (fun f => f.v) rr
  | .jsr hhll => .call hhll
  | .rts => .implied 0x60 returnFromSubroutine
  | .clc => .implied 0x18 (fun s => s.setFlags (s.flags.setC false))
  | .cld => .implied 0xD8 (fun s => s.setFlags (s.flags.setD false))
  | .cli => .implied 0x58 (fun s => s.setFlags (s.flags.setI false))
  | .clv => .implied 0xB8 (fun s => s.setFlags (s.flags.setV false))
  | .sec => .implied 0x38 (fun s => s.setFlags (s.flags.setC true))
  | .sed => .implied 0xF8 (fun s => s.setFlags (s.flags.setD true))
  | .sei => .implied 0x78 (fun s => s.setFlags (s.flags.setI true))
  | .pha => .implied 0x48 (fun s => push s.a s)
  | .php => .implied 0x08 (fun s => push (statusByte true s.flags) s)
  | .pla => .implied 0x68 pullA
  | .plp => .implied 0x28 pullFlags
  | .nop => .implied 0xEA (fun s => s)
  | .brk => .implied 0x00 softwareInterrupt
  | .rti => .implied 0x40 returnFromInterrupt

/-- Every instruction runs its shape, and nothing else. -/
theorem exec_eq_shape (i : Instr) (s : State) : exec i s = .next ((execShape i).run s) := by
  cases i <;> rfl

/-- A next state is the one the shape leaves. -/
theorem shape_of_exec {i : Instr} {s t : State} (h : exec i s = .next t) : t = (execShape i).run s := by
  rw [exec_eq_shape] at h
  injection h with h
  exact h.symm

/-! ### The bodies that occur -/

/-- The bodies of the reading instructions. -/
theorem read_body_cases {i : Instr} {opcode : Byte} {body : Byte → State → State} {src : Source}
    (h : execShape i = .read opcode body src) :
    body ∈ [addToA, subFromA, andWithA, orWithA, xorWithA, compareA, compareX, compareY, testBits, resultToA, resultToX,
      resultToY] := by
  cases i <;> simp only [execShape, ExecShape.read.injEq, reduceCtorEq] at h <;> obtain ⟨-, rfl, -⟩ := h <;>
    simp only [List.mem_cons, true_or, or_true]

end Sys2Proof.Machine
end

