-- ==== Sys2Proof/Tests/Slice0.lean ====
section
/-! SUPPORT. The model's own tests: the admission check, decoding, one step per vector of spec/95_test_vectors.md, and for every
obligation with hypotheses a witness that meets them. Expected results come from the spec's vectors and rules. -/

namespace Sys2Proof.Tests

open Sys2Proof Sys2Proof.Machine

/-- Bytes stored at rising addresses. -/
def placed : Word → List Byte → State → State
  | _, [], s => s
  | a, b :: rest, s => placed (a + 1) rest (writeByte s a b)

/-- The step answers a next state of which `f` gives `v`. -/
def gives {α : Type} [DecidableEq α] (s : State) (f : State → α) (v : α) : Bool :=
  match step s with
  | .next t => decide (f t = v)
  | .fault _ => false
  | .refused _ => false

/-- The step answers a fault, of which `f` gives `v`. -/
def faults {α : Type} [DecidableEq α] (s : State) (f : Fault → α) (v : α) : Bool :=
  match step s with
  | .next _ => false
  | .fault e => decide (f e = v)
  | .refused _ => false

/-- The interrupted program of the vectors X1 to X16: NOPs at 0x8123 and at the three handlers. -/
def interruptible : State :=
  placed 0xFFFA [0x00, 0xA0, 0x10, 0xFC, 0x00, 0xB0] (placed 0xFC10 [0xEA] (placed 0xA000 [0xEA, 0xEA] (placed 0xB000 [0xEA]
    (placed 0x8123 [0xEA, 0xEA] { State.reset with pc := 0x8123 }))))

/-- `interruptible` with I clear. -/
def unmasked : State := interruptible.setFlags (State.reset.flags.setI false)

/-! ### The admission check -/

/-- Under DocNamed LDA is not admitted (R77): an ill-formed term, refused. -/
theorem test_docNamed_refuses_lda : (Instr.ldaImm 0x42).wellFormed .docNamed = false := by decide

theorem test_docNamed_admits_adc : (Instr.adcImm 0x42).wellFormed .docNamed = true := by decide

theorem test_official_admits_lda : (Instr.ldaImm 0x42).wellFormed .official151 = true := by decide

/-! ### Words written out bit by bit (R67, R71): aaabbbcc, then the operand bytes, low byte first -/

/-- ADC #nn: aaa 011, bbb 010, cc 01. -/
theorem test_word_adc : decode .official151 [0b01101001, 0b01000000] = .ok (.adcImm 0x40) [] := by decide

/-- ROR abs,X: aaa 011, bbb 111, cc 10. -/
theorem test_word_ror : decode .official151 [0b01111110, 0b11111111, 0b00010010] = .ok (.rorAbsX 0x12FF) [] := by decide

/-- STA (zp),Y: aaa 100, bbb 100, cc 01. -/
theorem test_word_sta : decode .official151 [0b10010001, 0b01000000] = .ok (.staIndY 0x40) [] := by decide

/-- BNE: xx 11, y 0, then 10000. -/
theorem test_word_bne : decode .official151 [0b11010000, 0b11110000] = .ok (.bne 0xF0) [] := by decide

/-- PHP. -/
theorem test_word_php : decode .official151 [0b00001000] = .ok .php [] := by decide

/-- RTI. -/
theorem test_word_rti : decode .official151 [0b01000000] = .ok .rti [] := by decide

/-- An unmapped byte (R72), a truncated instruction, and no byte at all are refused by name. -/
theorem test_word_refused :
    decode .official151 [0x02, 0x00, 0x00] = .error (.unmapped 0x02) ∧
    decode .official151 [0xAD, 0x34] = .error (.truncated 0xAD) ∧ decode .official151 [] = .error .noBytes := by
  decide

/-- The table's numbering: the first operand byte in bits 15 to 8, the second in bits 23 to 16. -/
theorem test_decodeTableWord :
    decodeTableWord 24 0x1234AD = some (.ldaAbs 0x1234) ∧ decodeTableWord 8 0x1234AD = some (.ldaAbs 0x0000) ∧
    decodeTableWord 8 0x02 = none := by
  decide

/-- The placed instruction is the first one after reset. -/
theorem test_withFetchWord :
    gives (State.reset.withFetchWord 16 0x42A9) (fun t => (t.a, t.pc, t.cycles)) (0x42, 0xC002, 2) = true := by
  decide

/-- With an NMI pending it is the handler's first instruction. -/
theorem test_withFetchWord_nmi :
    gives ((interruptible.setNmiReq true).withFetchWord 8 0xE8) (fun t => (t.x, t.pc)) (0x01, 0xA001) = true := by
  decide

/-! ### One step per vector. Flags are given as the byte N V 1 0 D I Z C. -/

/-- V2 of 95_test_vectors.md: `LDA $10`. -/
theorem test_V2_LDA :
    gives (placed 0x0010 [0x77] (placed 0x0200 [0xA5, 0x10] { State.reset with pc := 0x0200 })) (fun t => (statusByte
      false t.flags, t.cycles, t.a, t.pc)) (0x24, 3, 0x77, 0x0202) = true := by
  decide

/-- V3 of 95_test_vectors.md: `LDA $F0,X`. -/
theorem test_V3_LDA :
    gives (placed 0x0010 [0x5A] (placed 0x0200 [0xB5, 0xF0] { State.reset with pc := 0x0200, x := 0x20 })) (fun t =>
      (statusByte false t.flags, t.cycles, t.a, t.pc)) (0x24, 4, 0x5A, 0x0202) = true := by
  decide

/-- V4 of 95_test_vectors.md: `LDX $F0,Y`. -/
theorem test_V4_LDX :
    gives (placed 0x0010 [0x00] (placed 0x0200 [0xB6, 0xF0] { State.reset with pc := 0x0200, y := 0x20 })) (fun t =>
      (statusByte false t.flags, t.cycles, t.pc)) (0x26, 4, 0x0202) = true := by
  decide

/-- V8 of 95_test_vectors.md: `LDA $FFFF,X`. -/
theorem test_V8_LDA :
    gives (placed 0x0000 [0x03] (placed 0x0200 [0xBD, 0xFF, 0xFF] { State.reset with pc := 0x0200, x := 0x01 })) (fun
      t => (statusByte false t.flags, t.cycles, t.a, t.pc)) (0x24, 5, 0x03, 0x0203) = true := by
  decide

/-- V9 of 95_test_vectors.md: `LDA $1280,Y`. -/
theorem test_V9_LDA :
    gives (placed 0x1300 [0x04] (placed 0x0200 [0xB9, 0x80, 0x12] { State.reset with pc := 0x0200, y := 0x80 })) (fun
      t => (statusByte false t.flags, t.cycles, t.a, t.pc)) (0x24, 5, 0x04, 0x0203) = true := by
  decide

/-- V10 of 95_test_vectors.md: `STA $12FF,X`. -/
theorem test_V10_STA :
    gives (placed 0x0200 [0x9D, 0xFF, 0x12] { State.reset with pc := 0x0200, a := 0x66, x := 0x01 }) (fun t =>
      (statusByte false t.flags, t.cycles, t.pc, readByte t 0x1300)) (0x24, 5, 0x0203, 0x66) = true := by
  decide

/-- V12 of 95_test_vectors.md: `LDA ($FE,X)`. -/
theorem test_V12_LDA :
    gives (placed 0x5000 [0x22] (placed 0x4000 [0x21] (placed 0x0000 [0x50] (placed 0x00FF [0x00, 0x40] (placed
      0x0200 [0xA1, 0xFE] { State.reset with pc := 0x0200, x := 0x01 }))))) (fun t => (statusByte false t.flags,
      t.cycles, t.a, t.pc)) (0x24, 6, 0x21, 0x0202) = true := by
  decide

/-- V13 of 95_test_vectors.md: `LDA ($FE,X)`. -/
theorem test_V13_LDA :
    gives (placed 0x5000 [0x22] (placed 0x4000 [0x21] (placed 0x0000 [0x50] (placed 0x00FF [0x00, 0x40] (placed
      0x0200 [0xA1, 0xFE]
      { State.reset with pc := 0x0200, x := 0x01, params := { Params.default with zpPtrWrap := true } }))))) (fun t
      => (statusByte false t.flags, t.cycles, t.a, t.pc)) (0x24, 6, 0x22, 0x0202) = true := by
  decide

/-- V14 of 95_test_vectors.md: `LDA ($40),Y`. -/
theorem test_V14_LDA :
    gives (placed 0x1308 [0x31] (placed 0x0040 [0xF8, 0x12] (placed 0x0200 [0xB1, 0x40]
      { State.reset with pc := 0x0200, y := 0x10 }))) (fun t => (statusByte false t.flags, t.cycles, t.a, t.pc))
      (0x24, 6, 0x31, 0x0202) = true := by
  decide

/-- V20 of 95_test_vectors.md: `JMP ($10FF)`. -/
theorem test_V20_JMP :
    gives (placed 0x1100 [0x12] (placed 0x1000 [0x7D] (placed 0x10FF [0x55] (placed 0x0200 [0x6C, 0xFF, 0x10]
      { State.reset with pc := 0x0200 })))) (fun t => (statusByte false t.flags, t.cycles, t.pc)) (0x24, 5, 0x7D55) =
      true := by
  decide

/-- V24 of 95_test_vectors.md: `STA $0E,X`. -/
theorem test_V24_STA :
    gives (placed 0x0200 [0x95, 0x0E] { State.reset with pc := 0x0200, a := 0x12, x := 0xF3 }) (fun t => (statusByte
      false t.flags, t.cycles, t.pc, readByte t 0x0001)) (0x24, 4, 0x0202, 0x12) = true := by
  decide

/-- V30 of 95_test_vectors.md: `PHA`. -/
theorem test_V30_PHA :
    gives (placed 0x0200 [0x48] { State.reset with pc := 0x0200, a := 0xAB, sp := 0x00 }) (fun t => (statusByte false
      t.flags, t.cycles, t.sp, t.pc, readByte t 0x0100)) (0x24, 3, 0xFF, 0x0201, 0xAB) = true := by
  decide

/-- V31 of 95_test_vectors.md: `PLA`. -/
theorem test_V31_PLA :
    gives (placed 0x0100 [0x80] (placed 0x0200 [0x68] { State.reset with pc := 0x0200, sp := 0xFF })) (fun t =>
      (statusByte false t.flags, t.cycles, t.a, t.sp, t.pc)) (0xA4, 4, 0x80, 0x00, 0x0201) = true := by
  decide

/-- V34 of 95_test_vectors.md: `JSR $3000`. -/
theorem test_V34_JSR :
    gives (placed 0x0310 [0x20, 0x00, 0x30] { State.reset with pc := 0x0310, sp := 0x00 }) (fun t => (statusByte
      false t.flags, t.cycles, t.sp, t.pc, [readByte t 0x0100, readByte t 0x01FF])) (0x24, 6, 0xFE, 0x3000,
      [0x03, 0x12]) = true := by
  decide

/-- V35 of 95_test_vectors.md: `RTS`. -/
theorem test_V35_RTS :
    gives (placed 0x0100 [0x12] (placed 0x01FF [0x02] (placed 0x0200 [0x60]
      { State.reset with pc := 0x0200, sp := 0xFE }))) (fun t => (statusByte false t.flags, t.cycles, t.sp, t.pc))
      (0x24, 6, 0x00, 0x1203) = true := by
  decide

/-- V43 of 95_test_vectors.md: `ADC #$01`. -/
theorem test_V43_ADC :
    gives (placed 0x0200 [0x69, 0x01] { State.reset with pc := 0x0200, a := 0x7F }) (fun t => (statusByte false
      t.flags, t.cycles, t.a, t.pc)) (0xE4, 2, 0x80, 0x0202) = true := by
  decide

/-- V46 of 95_test_vectors.md: `ADC #$80`. -/
theorem test_V46_ADC :
    gives (placed 0x0200 [0x69, 0x80] { State.reset with pc := 0x0200, a := 0x80 }) (fun t => (statusByte false
      t.flags, t.cycles, t.a, t.pc)) (0x67, 2, 0x00, 0x0202) = true := by
  decide

/-- V53 of 95_test_vectors.md: `SBC #$01`. -/
theorem test_V53_SBC :
    gives (placed 0x0200 [0xE9, 0x01]
      { State.reset with pc := 0x0200, a := 0x00, flags := { State.reset.flags with c := true } }) (fun t =>
      (statusByte false t.flags, t.cycles, t.a, t.pc)) (0xA4, 2, 0xFF, 0x0202) = true := by
  decide

/-- V55 of 95_test_vectors.md: `SBC #$05`. -/
theorem test_V55_SBC :
    gives (placed 0x0200 [0xE9, 0x05] { State.reset with pc := 0x0200, a := 0x05 }) (fun t => (statusByte false
      t.flags, t.cycles, t.a, t.pc)) (0xA4, 2, 0xFF, 0x0202) = true := by
  decide

/-- V59 of 95_test_vectors.md: `AND #$81`. -/
theorem test_V59_AND :
    gives (placed 0x0200 [0x29, 0x81] { State.reset with pc := 0x0200, a := 0xF0 }) (fun t => (statusByte false
      t.flags, t.cycles, t.a, t.pc)) (0xA4, 2, 0x80, 0x0202) = true := by
  decide

/-- V60 of 95_test_vectors.md: `ORA #$80`. -/
theorem test_V60_ORA :
    gives (placed 0x0200 [0x09, 0x80] { State.reset with pc := 0x0200, a := 0x01 }) (fun t => (statusByte false
      t.flags, t.cycles, t.a, t.pc)) (0xA4, 2, 0x81, 0x0202) = true := by
  decide

/-- V63 of 95_test_vectors.md: `EOR #$FF`. -/
theorem test_V63_EOR :
    gives (placed 0x0200 [0x49, 0xFF] { State.reset with pc := 0x0200, a := 0x0F }) (fun t => (statusByte false
      t.flags, t.cycles, t.a, t.pc)) (0xA4, 2, 0xF0, 0x0202) = true := by
  decide

/-- V65 of 95_test_vectors.md: `CMP #$41`. -/
theorem test_V65_CMP :
    gives (placed 0x0200 [0xC9, 0x41] { State.reset with pc := 0x0200, a := 0x40 }) (fun t => (statusByte false
      t.flags, t.cycles, t.pc)) (0xA4, 2, 0x0202) = true := by
  decide

/-- V67 of 95_test_vectors.md: `CMP #$40`. -/
theorem test_V67_CMP :
    gives (placed 0x0200 [0xC9, 0x40] { State.reset with pc := 0x0200, a := 0xC0 }) (fun t => (statusByte false
      t.flags, t.cycles, t.pc)) (0xA5, 2, 0x0202) = true := by
  decide

/-- V69 of 95_test_vectors.md: `CPX #$10`. -/
theorem test_V69_CPX :
    gives (placed 0x0200 [0xE0, 0x10] { State.reset with pc := 0x0200, x := 0x20 }) (fun t => (statusByte false
      t.flags, t.cycles, t.pc)) (0x25, 2, 0x0202) = true := by
  decide

/-- V71 of 95_test_vectors.md: `CPY #$FF`. -/
theorem test_V71_CPY :
    gives (placed 0x0200 [0xC0, 0xFF] { State.reset with pc := 0x0200, y := 0xFF }) (fun t => (statusByte false
      t.flags, t.cycles, t.pc)) (0x27, 2, 0x0202) = true := by
  decide

/-- V73 of 95_test_vectors.md: `BIT $10`. -/
theorem test_V73_BIT :
    gives (placed 0x0010 [0xC0] (placed 0x0200 [0x24, 0x10] { State.reset with pc := 0x0200, a := 0x01 })) (fun t =>
      (statusByte false t.flags, t.cycles, t.pc)) (0xE6, 3, 0x0202) = true := by
  decide

/-- V74 of 95_test_vectors.md: `BIT $1234`. -/
theorem test_V74_BIT :
    gives (placed 0x1234 [0x3F] (placed 0x0200 [0x2C, 0x34, 0x12]
      { State.reset with pc := 0x0200, a := 0xFF, flags := { State.reset.flags with n := true, v := true } })) (fun t
      => (statusByte false t.flags, t.cycles, t.pc)) (0x24, 4, 0x0203) = true := by
  decide

/-- V75 of 95_test_vectors.md: `INC $10`. -/
theorem test_V75_INC :
    gives (placed 0x0010 [0xFF] (placed 0x0200 [0xE6, 0x10] { State.reset with pc := 0x0200 })) (fun t => (statusByte
      false t.flags, t.cycles, t.pc, readByte t 0x0010)) (0x26, 5, 0x0202, 0x00) = true := by
  decide

/-- V76 of 95_test_vectors.md: `INC $1234,X`. -/
theorem test_V76_INC :
    gives (placed 0x1235 [0x7F] (placed 0x0200 [0xFE, 0x34, 0x12] { State.reset with pc := 0x0200, x := 0x01 })) (fun
      t => (statusByte false t.flags, t.cycles, t.pc, readByte t 0x1235)) (0xA4, 7, 0x0203, 0x80) = true := by
  decide

/-- V77 of 95_test_vectors.md: `DEC $10`. -/
theorem test_V77_DEC :
    gives (placed 0x0010 [0x00] (placed 0x0200 [0xC6, 0x10] { State.reset with pc := 0x0200 })) (fun t => (statusByte
      false t.flags, t.cycles, t.pc, readByte t 0x0010)) (0xA4, 5, 0x0202, 0xFF) = true := by
  decide

/-- V78 of 95_test_vectors.md: `DEC $10,X`. -/
theorem test_V78_DEC :
    gives (placed 0x0001 [0x01] (placed 0x0200 [0xD6, 0x10] { State.reset with pc := 0x0200, x := 0xF1 })) (fun t =>
      (statusByte false t.flags, t.cycles, t.pc, readByte t 0x0001)) (0x26, 6, 0x0202, 0x00) = true := by
  decide

/-- V79 of 95_test_vectors.md: `INX`. -/
theorem test_V79_INX :
    gives (placed 0x0200 [0xE8] { State.reset with pc := 0x0200, x := 0xFF }) (fun t => (statusByte false t.flags,
      t.cycles, t.x, t.pc)) (0x26, 2, 0x00, 0x0201) = true := by
  decide

/-- V80 of 95_test_vectors.md: `INY`. -/
theorem test_V80_INY :
    gives (placed 0x0200 [0xC8] { State.reset with pc := 0x0200, y := 0x7F }) (fun t => (statusByte false t.flags,
      t.cycles, t.y, t.pc)) (0xA4, 2, 0x80, 0x0201) = true := by
  decide

/-- V81 of 95_test_vectors.md: `DEX`. -/
theorem test_V81_DEX :
    gives (placed 0x0200 [0xCA] { State.reset with pc := 0x0200, x := 0x01 }) (fun t => (statusByte false t.flags,
      t.cycles, t.x, t.pc)) (0x26, 2, 0x00, 0x0201) = true := by
  decide

/-- V82 of 95_test_vectors.md: `DEY`. -/
theorem test_V82_DEY :
    gives (placed 0x0200 [0x88] { State.reset with pc := 0x0200, y := 0x00 }) (fun t => (statusByte false t.flags,
      t.cycles, t.y, t.pc)) (0xA4, 2, 0xFF, 0x0201) = true := by
  decide

/-- V91 of 95_test_vectors.md: `ASL A`. -/
theorem test_V91_ASL :
    gives (placed 0x0200 [0x0A]
      { State.reset with pc := 0x0200, a := 0x40, flags := { State.reset.flags with c := true } }) (fun t =>
      (statusByte false t.flags, t.cycles, t.a, t.pc)) (0xA4, 2, 0x80, 0x0201) = true := by
  decide

/-- V93 of 95_test_vectors.md: `LSR A`. -/
theorem test_V93_LSR :
    gives (placed 0x0200 [0x4A]
      { State.reset with pc := 0x0200, a := 0x80, flags := { State.reset.flags with n := true } }) (fun t =>
      (statusByte false t.flags, t.cycles, t.a, t.pc)) (0x24, 2, 0x40, 0x0201) = true := by
  decide

/-- V95 of 95_test_vectors.md: `ROL A`. -/
theorem test_V95_ROL :
    gives (placed 0x0200 [0x2A]
      { State.reset with pc := 0x0200, a := 0x40, flags := { State.reset.flags with c := true } }) (fun t =>
      (statusByte false t.flags, t.cycles, t.a, t.pc)) (0xA4, 2, 0x81, 0x0201) = true := by
  decide

/-- V97 of 95_test_vectors.md: `ROR A`. -/
theorem test_V97_ROR :
    gives (placed 0x0200 [0x6A]
      { State.reset with pc := 0x0200, a := 0x00, flags := { State.reset.flags with c := true } }) (fun t =>
      (statusByte false t.flags, t.cycles, t.a, t.pc)) (0xA4, 2, 0x80, 0x0201) = true := by
  decide

/-- V98 of 95_test_vectors.md: `ASL $10`. -/
theorem test_V98_ASL :
    gives (placed 0x0010 [0xC1] (placed 0x0200 [0x06, 0x10] { State.reset with pc := 0x0200 })) (fun t => (statusByte
      false t.flags, t.cycles, t.pc, readByte t 0x0010)) (0xA5, 5, 0x0202, 0x82) = true := by
  decide

/-- V99 of 95_test_vectors.md: `LSR $1234`. -/
theorem test_V99_LSR :
    gives (placed 0x1234 [0x02] (placed 0x0200 [0x4E, 0x34, 0x12] { State.reset with pc := 0x0200 })) (fun t =>
      (statusByte false t.flags, t.cycles, t.pc, readByte t 0x1234)) (0x24, 6, 0x0203, 0x01) = true := by
  decide

/-- V100 of 95_test_vectors.md: `ROL $10,X`. -/
theorem test_V100_ROL :
    gives (placed 0x0011 [0xFF] (placed 0x0200 [0x36, 0x10]
      { State.reset with pc := 0x0200, x := 0x01, flags := { State.reset.flags with c := true } })) (fun t =>
      (statusByte false t.flags, t.cycles, t.pc, readByte t 0x0011)) (0xA5, 6, 0x0202, 0xFF) = true := by
  decide

/-- V101 of 95_test_vectors.md: `ROR $12FF,X`. -/
theorem test_V101_ROR :
    gives (placed 0x1300 [0x03] (placed 0x0200 [0x7E, 0xFF, 0x12] { State.reset with pc := 0x0200, x := 0x01 })) (fun
      t => (statusByte false t.flags, t.cycles, t.pc, readByte t 0x1300)) (0x25, 7, 0x0203, 0x01) = true := by
  decide

/-- V111 of 95_test_vectors.md: `LDA #$80`. -/
theorem test_V111_LDA :
    gives (placed 0x0200 [0xA9, 0x80] { State.reset with pc := 0x0200 }) (fun t => (statusByte false t.flags,
      t.cycles, t.a, t.pc)) (0xA4, 2, 0x80, 0x0202) = true := by
  decide

/-- V112 of 95_test_vectors.md: `LDX #$00`. -/
theorem test_V112_LDX :
    gives (placed 0x0200 [0xA2, 0x00] { State.reset with pc := 0x0200, x := 0x01 }) (fun t => (statusByte false
      t.flags, t.cycles, t.x, t.pc)) (0x26, 2, 0x00, 0x0202) = true := by
  decide

/-- V114 of 95_test_vectors.md: `LDX $1280,Y`. -/
theorem test_V114_LDX :
    gives (placed 0x1300 [0x7F] (placed 0x0200 [0xBE, 0x80, 0x12] { State.reset with pc := 0x0200, y := 0x80 })) (fun
      t => (statusByte false t.flags, t.cycles, t.x, t.pc)) (0x24, 5, 0x7F, 0x0203) = true := by
  decide

/-- V113 of 95_test_vectors.md: `LDY #$FF`. -/
theorem test_V113_LDY :
    gives (placed 0x0200 [0xA0, 0xFF] { State.reset with pc := 0x0200 }) (fun t => (statusByte false t.flags,
      t.cycles, t.y, t.pc)) (0xA4, 2, 0xFF, 0x0202) = true := by
  decide

/-- V115 of 95_test_vectors.md: `LDY $12FF,X`. -/
theorem test_V115_LDY :
    gives (placed 0x1300 [0x00] (placed 0x0200 [0xBC, 0xFF, 0x12] { State.reset with pc := 0x0200, x := 0x01 })) (fun
      t => (statusByte false t.flags, t.cycles, t.pc)) (0x26, 5, 0x0203) = true := by
  decide

/-- V117 of 95_test_vectors.md: `STA ($40),Y`. -/
theorem test_V117_STA :
    gives (placed 0x0040 [0xF8, 0x12] (placed 0x0200 [0x91, 0x40]
      { State.reset with pc := 0x0200, a := 0x5A, y := 0x10 })) (fun t => (statusByte false t.flags, t.cycles, t.pc,
      readByte t 0x1308)) (0x24, 6, 0x0202, 0x5A) = true := by
  decide

/-- V118 of 95_test_vectors.md: `STX $F0,Y`. -/
theorem test_V118_STX :
    gives (placed 0x0200 [0x96, 0xF0] { State.reset with pc := 0x0200, x := 0x9C, y := 0x20 }) (fun t => (statusByte
      false t.flags, t.cycles, t.pc, readByte t 0x0010)) (0x24, 4, 0x0202, 0x9C) = true := by
  decide

/-- V119 of 95_test_vectors.md: `STY $1234`. -/
theorem test_V119_STY :
    gives (placed 0x0200 [0x8C, 0x34, 0x12] { State.reset with pc := 0x0200, y := 0x80 }) (fun t => (statusByte false
      t.flags, t.cycles, t.pc, readByte t 0x1234)) (0x24, 4, 0x0203, 0x80) = true := by
  decide

/-- V120 of 95_test_vectors.md: `TAX`. -/
theorem test_V120_TAX :
    gives (placed 0x0200 [0xAA] { State.reset with pc := 0x0200, a := 0x00, x := 0x33 }) (fun t => (statusByte false
      t.flags, t.cycles, t.x, t.pc)) (0x26, 2, 0x00, 0x0201) = true := by
  decide

/-- V121 of 95_test_vectors.md: `TAY`. -/
theorem test_V121_TAY :
    gives (placed 0x0200 [0xA8] { State.reset with pc := 0x0200, a := 0x90 }) (fun t => (statusByte false t.flags,
      t.cycles, t.y, t.pc)) (0xA4, 2, 0x90, 0x0201) = true := by
  decide

/-- V122 of 95_test_vectors.md: `TXA`. -/
theorem test_V122_TXA :
    gives (placed 0x0200 [0x8A] { State.reset with pc := 0x0200, x := 0x7F, a := 0x80 }) (fun t => (statusByte false
      t.flags, t.cycles, t.a, t.pc)) (0x24, 2, 0x7F, 0x0201) = true := by
  decide

/-- V123 of 95_test_vectors.md: `TYA`. -/
theorem test_V123_TYA :
    gives (placed 0x0200 [0x98] { State.reset with pc := 0x0200, y := 0x00, a := 0x01 }) (fun t => (statusByte false
      t.flags, t.cycles, t.a, t.pc)) (0x26, 2, 0x00, 0x0201) = true := by
  decide

/-- V124 of 95_test_vectors.md: `TSX`. -/
theorem test_V124_TSX :
    gives (placed 0x0200 [0xBA] { State.reset with pc := 0x0200 }) (fun t => (statusByte false t.flags, t.cycles,
      t.x, t.pc)) (0xA4, 2, 0xFD, 0x0201) = true := by
  decide

/-- V126 of 95_test_vectors.md: `TXS`. -/
theorem test_V126_TXS :
    gives (placed 0x0200 [0x9A]
      { State.reset with pc := 0x0200, x := 0x80, flags := { State.reset.flags with z := true } }) (fun t =>
      (statusByte false t.flags, t.cycles, t.sp, t.pc)) (0x26, 2, 0x80, 0x0201) = true := by
  decide

/-- V130 of 95_test_vectors.md: `JMP $1234`. -/
theorem test_V130_JMP :
    gives (placed 0x0200 [0x4C, 0x34, 0x12] { State.reset with pc := 0x0200 }) (fun t => (statusByte false t.flags,
      t.cycles, t.pc)) (0x24, 3, 0x1234) = true := by
  decide

/-- V132 of 95_test_vectors.md: `BCC $0212`. -/
theorem test_V132_BCC :
    gives (placed 0x0200 [0x90, 0x10]
      { State.reset with pc := 0x0200, flags := { State.reset.flags with c := true } }) (fun t => (statusByte false
      t.flags, t.cycles, t.pc)) (0x25, 2, 0x0202) = true := by
  decide

/-- V134 of 95_test_vectors.md: `BCC $0312`. -/
theorem test_V134_BCC :
    gives (placed 0x02F0 [0x90, 0x20] { State.reset with pc := 0x02F0 }) (fun t => (statusByte false t.flags,
      t.cycles, t.pc)) (0x24, 4, 0x0312) = true := by
  decide

/-- V135 of 95_test_vectors.md: `BCS $0212`. -/
theorem test_V135_BCS :
    gives (placed 0x0200 [0xB0, 0x10] { State.reset with pc := 0x0200 }) (fun t => (statusByte false t.flags,
      t.cycles, t.pc)) (0x24, 2, 0x0202) = true := by
  decide

/-- V160 of 95_test_vectors.md: `BCS $0001`. -/
theorem test_V160_BCS :
    gives (placed 0xFFFD [0xB0, 0x02]
      { State.reset with pc := 0xFFFD, flags := { State.reset.flags with c := true } }) (fun t => (statusByte false
      t.flags, t.cycles, t.pc)) (0x25, 4, 0x0001) = true := by
  decide

/-- V138 of 95_test_vectors.md: `BEQ $0212`. -/
theorem test_V138_BEQ :
    gives (placed 0x0200 [0xF0, 0x10] { State.reset with pc := 0x0200 }) (fun t => (statusByte false t.flags,
      t.cycles, t.pc)) (0x24, 2, 0x0202) = true := by
  decide

/-- V157 of 95_test_vectors.md: `BEQ $0182`. -/
theorem test_V157_BEQ :
    gives (placed 0x0200 [0xF0, 0x80]
      { State.reset with pc := 0x0200, flags := { State.reset.flags with z := true } }) (fun t => (statusByte false
      t.flags, t.cycles, t.pc)) (0x26, 4, 0x0182) = true := by
  decide

/-- V144 of 95_test_vectors.md: `BMI $0212`. -/
theorem test_V144_BMI :
    gives (placed 0x0200 [0x30, 0x10] { State.reset with pc := 0x0200 }) (fun t => (statusByte false t.flags,
      t.cycles, t.pc)) (0x24, 2, 0x0202) = true := by
  decide

/-- V146 of 95_test_vectors.md: `BMI $0312`. -/
theorem test_V146_BMI :
    gives (placed 0x02F0 [0x30, 0x20]
      { State.reset with pc := 0x02F0, flags := { State.reset.flags with n := true } }) (fun t => (statusByte false
      t.flags, t.cycles, t.pc)) (0xA4, 4, 0x0312) = true := by
  decide

/-- V141 of 95_test_vectors.md: `BNE $0212`. -/
theorem test_V141_BNE :
    gives (placed 0x0200 [0xD0, 0x10]
      { State.reset with pc := 0x0200, flags := { State.reset.flags with z := true } }) (fun t => (statusByte false
      t.flags, t.cycles, t.pc)) (0x26, 2, 0x0202) = true := by
  decide

/-- V156 of 95_test_vectors.md: `BNE $01F2`. -/
theorem test_V156_BNE :
    gives (placed 0x0200 [0xD0, 0xF0] { State.reset with pc := 0x0200 }) (fun t => (statusByte false t.flags,
      t.cycles, t.pc)) (0x24, 4, 0x01F2) = true := by
  decide

/-- V147 of 95_test_vectors.md: `BPL $0212`. -/
theorem test_V147_BPL :
    gives (placed 0x0200 [0x10, 0x10]
      { State.reset with pc := 0x0200, flags := { State.reset.flags with n := true } }) (fun t => (statusByte false
      t.flags, t.cycles, t.pc)) (0xA4, 2, 0x0202) = true := by
  decide

/-- V149 of 95_test_vectors.md: `BPL $0312`. -/
theorem test_V149_BPL :
    gives (placed 0x02F0 [0x10, 0x20] { State.reset with pc := 0x02F0 }) (fun t => (statusByte false t.flags,
      t.cycles, t.pc)) (0x24, 4, 0x0312) = true := by
  decide

/-- V150 of 95_test_vectors.md: `BVC $0212`. -/
theorem test_V150_BVC :
    gives (placed 0x0200 [0x50, 0x10]
      { State.reset with pc := 0x0200, flags := { State.reset.flags with v := true } }) (fun t => (statusByte false
      t.flags, t.cycles, t.pc)) (0x64, 2, 0x0202) = true := by
  decide

/-- V152 of 95_test_vectors.md: `BVC $0312`. -/
theorem test_V152_BVC :
    gives (placed 0x02F0 [0x50, 0x20] { State.reset with pc := 0x02F0 }) (fun t => (statusByte false t.flags,
      t.cycles, t.pc)) (0x24, 4, 0x0312) = true := by
  decide

/-- V153 of 95_test_vectors.md: `BVS $0212`. -/
theorem test_V153_BVS :
    gives (placed 0x0200 [0x70, 0x10] { State.reset with pc := 0x0200 }) (fun t => (statusByte false t.flags,
      t.cycles, t.pc)) (0x24, 2, 0x0202) = true := by
  decide

/-- V155 of 95_test_vectors.md: `BVS $0312`. -/
theorem test_V155_BVS :
    gives (placed 0x02F0 [0x70, 0x20]
      { State.reset with pc := 0x02F0, flags := { State.reset.flags with v := true } }) (fun t => (statusByte false
      t.flags, t.cycles, t.pc)) (0x64, 4, 0x0312) = true := by
  decide

/-- V161 of 95_test_vectors.md: `JSR $3000`. -/
theorem test_V161_JSR :
    gives (placed 0x0310 [0x20, 0x00, 0x30] { State.reset with pc := 0x0310 }) (fun t => (statusByte false t.flags,
      t.cycles, t.sp, t.pc, [readByte t 0x01FD, readByte t 0x01FC])) (0x24, 6, 0xFB, 0x3000, [0x03, 0x12]) = true :=
      by
  decide

/-- V162 of 95_test_vectors.md: `RTS`. -/
theorem test_V162_RTS :
    gives (placed 0x01FC [0x12, 0x03] (placed 0x3000 [0x60] { State.reset with pc := 0x3000, sp := 0xFB })) (fun t =>
      (statusByte false t.flags, t.cycles, t.sp, t.pc)) (0x24, 6, 0xFD, 0x0313) = true := by
  decide

/-- V170 of 95_test_vectors.md: `CLC`. -/
theorem test_V170_CLC :
    gives (placed 0x0200 [0x18] { State.reset with pc := 0x0200, flags := { State.reset.flags with c := true } })
      (fun t => (statusByte false t.flags, t.cycles, t.pc)) (0x24, 2, 0x0201) = true := by
  decide

/-- V171 of 95_test_vectors.md: `CLD`. -/
theorem test_V171_CLD :
    gives (placed 0x0200 [0xD8] { State.reset with pc := 0x0200, flags := { State.reset.flags with d := true } })
      (fun t => (statusByte false t.flags, t.cycles, t.pc)) (0x24, 2, 0x0201) = true := by
  decide

/-- V172 of 95_test_vectors.md: `CLI`. -/
theorem test_V172_CLI :
    gives (placed 0x0200 [0x58] { State.reset with pc := 0x0200 }) (fun t => (statusByte false t.flags, t.cycles,
      t.pc)) (0x20, 2, 0x0201) = true := by
  decide

/-- V173 of 95_test_vectors.md: `CLV`. -/
theorem test_V173_CLV :
    gives (placed 0x0200 [0xB8] { State.reset with pc := 0x0200, flags := { State.reset.flags with v := true } })
      (fun t => (statusByte false t.flags, t.cycles, t.pc)) (0x24, 2, 0x0201) = true := by
  decide

/-- V174 of 95_test_vectors.md: `SEC`. -/
theorem test_V174_SEC :
    gives (placed 0x0200 [0x38] { State.reset with pc := 0x0200 }) (fun t => (statusByte false t.flags, t.cycles,
      t.pc)) (0x25, 2, 0x0201) = true := by
  decide

/-- V175 of 95_test_vectors.md: `SED`. -/
theorem test_V175_SED :
    gives (placed 0x0200 [0xF8] { State.reset with pc := 0x0200 }) (fun t => (statusByte false t.flags, t.cycles,
      t.pc)) (0x2C, 2, 0x0201) = true := by
  decide

/-- V176 of 95_test_vectors.md: `SEI`. -/
theorem test_V176_SEI :
    gives (placed 0x0200 [0x78] { State.reset with pc := 0x0200, flags := { State.reset.flags with i := false } })
      (fun t => (statusByte false t.flags, t.cycles, t.pc)) (0x24, 2, 0x0201) = true := by
  decide

/-- V180 of 95_test_vectors.md: `PHP`. -/
theorem test_V180_PHP :
    gives (placed 0x0200 [0x08]
      { State.reset with pc := 0x0200, flags := { State.reset.flags with n := true, v := true, d := true, z := true, c := true } })
      (fun t => (statusByte false t.flags, t.cycles, t.sp, t.pc, readByte t 0x01FD)) (0xEF, 3, 0xFC, 0x0201, 0xFF) =
      true := by
  decide

/-- V179 of 95_test_vectors.md: `PHP`. -/
theorem test_V179_PHP :
    gives (placed 0x0200 [0x08] { State.reset with pc := 0x0200 }) (fun t => (statusByte false t.flags, t.cycles,
      t.sp, t.pc, readByte t 0x01FD)) (0x24, 3, 0xFC, 0x0201, 0x34) = true := by
  decide

/-- V182 of 95_test_vectors.md: `PLA`. -/
theorem test_V182_PLA :
    gives (placed 0x01FD [0x80] (placed 0x0200 [0x68] { State.reset with pc := 0x0200, sp := 0xFC })) (fun t =>
      (statusByte false t.flags, t.cycles, t.a, t.sp, t.pc)) (0xA4, 4, 0x80, 0xFD, 0x0201) = true := by
  decide

/-- V185 of 95_test_vectors.md: `PLP`. -/
theorem test_V185_PLP :
    gives (placed 0x01FD [0xC3] (placed 0x0200 [0x28] { State.reset with pc := 0x0200, sp := 0xFC })) (fun t =>
      (statusByte false t.flags, t.cycles, t.sp, t.pc)) (0xE3, 4, 0xFD, 0x0201) = true := by
  decide

/-- V186 of 95_test_vectors.md: `NOP`. -/
theorem test_V186_NOP :
    gives (placed 0x0200 [0xEA]
      { State.reset with pc := 0x0200, a := 0x12, flags := { State.reset.flags with n := true } }) (fun t =>
      (statusByte false t.flags, t.cycles, t.pc)) (0xA4, 2, 0x0201) = true := by
  decide

/-- V191 of 95_test_vectors.md: `BRK`. -/
theorem test_V191_BRK :
    gives (placed 0xFFFE [0x00, 0x90] (placed 0x0300 [0x00, 0xEA]
      { State.reset with pc := 0x0300, flags := { State.reset.flags with n := true, i := false, c := true } })) (fun
      t => (statusByte false t.flags, t.cycles, t.sp, t.pc,
      [readByte t 0x01FD, readByte t 0x01FC, readByte t 0x01FB])) (0xA5, 7, 0xFA, 0x9000, [0x03, 0x02, 0xB1]) = true
      := by
  decide

/-- V196 of 95_test_vectors.md: `BRK`. -/
theorem test_V196_BRK :
    gives (placed 0xFFFE [0x00, 0x90] (placed 0x0300 [0x00, 0xEA] { State.reset with pc := 0x0300, sp := 0x01 }))
      (fun t => (statusByte false t.flags, t.cycles, t.sp, t.pc,
      [readByte t 0x0101, readByte t 0x0100, readByte t 0x01FF])) (0x24, 7, 0xFE, 0x9000, [0x03, 0x02, 0x34]) = true
      := by
  decide

/-- V194 of 95_test_vectors.md: `RTI`. -/
theorem test_V194_RTI :
    gives (placed 0x01FB [0xFF, 0x02, 0x03] (placed 0x9000 [0x40] { State.reset with pc := 0x9000, sp := 0xFA }))
      (fun t => (statusByte false t.flags, t.cycles, t.sp, t.pc)) (0xEF, 6, 0xFD, 0x0302) = true := by
  decide

/-- V195 of 95_test_vectors.md: `RTI`. -/
theorem test_V195_RTI :
    gives (placed 0x0100 [0x34, 0x12] (placed 0x01FF [0x00] (placed 0x9000 [0x40]
      { State.reset with pc := 0x9000, sp := 0xFE }))) (fun t => (statusByte false t.flags, t.cycles, t.sp, t.pc))
      (0x20, 6, 0x01, 0x1234) = true := by
  decide

/-! ### Interrupts, faults, refusals and host calls (95_test_vectors.md X1 to X16, T1 to T7) -/

/-- X1: reset service, then the handler's NOP. -/
theorem test_X1_reset_service :
    gives (interruptible.setResetReq true) (fun t => (t.pc, t.sp, t.resetReq, t.cycles, statusByte false t.flags))
      (0xFC11, 0xFD, false, 9, 0x24) = true := by
  decide

/-- X2: NMI frame. -/
theorem test_X2_nmi_frame :
    gives ((interruptible.setNmiReq true).setFlags { State.reset.flags with n := true, c := true, i := false })
      (fun t => (t.pc, t.sp, t.nmiReq, t.cycles, [readByte t 0x01FD, readByte t 0x01FC, readByte t 0x01FB]))
      (0xA001, 0xFA, false, 9, [0x81, 0x23, 0xA1]) = true := by
  decide

/-- X3: IRQ frame with Break 0; the line stays. -/
theorem test_X3_irq_frame :
    gives (unmasked.setIrqLine true)
      (fun t => (t.pc, t.sp, t.irqLine, t.flags.i, t.cycles, readByte t 0x01FB)) (0xB001, 0xFA, true, true, 9, 0x20) = true := by
  decide

/-- X4: a masked IRQ is not serviced. -/
theorem test_X4_masked_irq :
    gives (interruptible.setIrqLine true) (fun t => (t.pc, t.sp, t.irqLine, t.cycles)) (0x8124, 0xFD, true, 2) = true := by
  decide

/-- X5, step 1: reset first, the NMI stays pending. -/
theorem test_X5_reset_before_nmi :
    gives ((interruptible.setResetReq true).setNmiReq true) (fun t => (t.pc, t.sp, t.nmiReq)) (0xFC11, 0xFD, true) = true := by
  decide

/-- X7, step 1: ENTRY_SETS_I false leaves I clear. -/
theorem test_X7_entry_keeps_i :
    gives { unmasked with nmiReq := true, params := { Params.default with entrySetsI := false } }
      (fun t => (t.pc, t.flags.i)) (0xA001, false) = true := by
  decide

/-- X9: an unmapped opcode, with the state it leaves. -/
theorem test_X9_unmapped :
    faults (placed 0x0400 [0x02] { State.reset with pc := 0x0400 })
      (fun e => (e.event, e.after.pc, e.after.cycles)) (.unmappedOpcode, 0x0401, 0) = true := by
  decide

/-- X10: the NMI service before the fault is kept. -/
theorem test_X10_fault_after_service :
    faults (placed 0xA000 [0xFF] (interruptible.setNmiReq true))
      (fun e => (e.after.pc, e.after.sp, e.after.nmiReq, e.after.cycles)) (0xA001, 0xFA, false, 7) = true := by
  decide

/-- X11: nothing runs before powerOn. -/
theorem test_X11_not_powered :
    (hostCall .step State.created).1 = .refused .notPoweredOn ∧
    (hostCall .reset State.created).1 = .refused .notPoweredOn ∧ (hostCall .cycleCount State.created).1 = .count 0 := by
  decide

/-- X12: the largest step, 14 cycles. -/
theorem test_X12_largest_step :
    gives (placed 0xA000 [0xFE, 0x34, 0x12] (interruptible.setNmiReq true))
      (fun t => (t.pc, readByte t 0x1234, t.cycles)) (0xA003, 0x01, 14) = true := by
  decide

/-- X16: LDA under DocNamed faults. -/
theorem test_X16_docNamed :
    faults (placed 0x0200 [0xA9, 0x42] { State.reset with pc := 0x0200, params := { Params.default with admitted := .docNamed } })
      (fun e => (e.after.pc, e.after.a)) (0x0201, 0x00) = true := by
  decide

/-- T1, T2: powerOn of a new core, from either source of PC. -/
theorem test_T1_powerOn : powerOn State.created = State.reset := by decide

theorem test_T2_powerOn_vector :
    (powerOn (placed 0xFFFC [0x00, 0x80] { State.created with params := { Params.default with powerOnPc := .resetVector } })).pc =
      0x8000 := by
  decide

/-- T5: reset() wraps SP and sets I alone. -/
theorem test_T5_warm_reset :
    (hostCall .reset { State.reset with sp := 0x01, flags := { State.reset.flags with i := false, n := true } }).2 =
      { State.reset with sp := 0xFE, flags := { State.reset.flags with n := true } } := by
  decide

/-! ### Witnesses: a state and operands that meet the hypotheses of each obligation -/

/-- LDA #$42 at PC. -/
def loadHere : State := placed 0x0200 [0xA9, 0x42] { State.reset with pc := 0x0200 }

/-- The same under DocNamed. -/
def loadHereDocNamed : State := { loadHere with params := { Params.default with admitted := .docNamed } }

/-- An unmapped byte at PC. -/
def unmappedHere : State := placed 0x0200 [0xFF] { State.reset with pc := 0x0200 }

/-- A self-jump at PC. -/
def selfJump : State := placed 0x0200 [0x4C, 0x00, 0x02] { State.reset with pc := 0x0200 }

/-- StepRunsTheDecodedInstruction: with no request, and with an NMI serviced first. -/
theorem witness_step_runs :
    loadHere.powered = true ∧
    [readByte loadHere 0x0200, readByte loadHere 0x0201, readByte loadHere 0x0202] = [0xA9, 0x42, 0x00] ∧
    serviceInterrupts loadHere = loadHere ∧ loadHere.pc = 0x0200 ∧
    decode loadHere.params.admitted [0xA9, 0x42, 0x00] = .ok (.ldaImm 0x42) [0x00] ∧
    (Instr.ldaImm 0x42).wellFormed loadHere.params.admitted = true ∧ selectService loadHere = none := by
  decide

/-- The same where the bytes wrap from 0xFFFF to 0x0000. -/
theorem witness_step_runs_wrapped :
    gives (placed 0xFFFE [0xAD, 0x34, 0x12] (placed 0x1234 [0x5A] { State.reset with pc := 0xFFFE })) (fun t => (t.a, t.pc))
      (0x5A, 0x0001) = true := by
  decide

theorem witness_step_runs_serviced :
    let u := serviceInterrupts (interruptible.setNmiReq true)
    decode u.params.admitted [readByte u u.pc, readByte u (u.pc + 1), readByte u (u.pc + 2)] = .ok .nop [0xEA, 0x00] := by
  decide

/-- DecodeUndoesEncode: both branches; EncodeUndoesDecode and the DocNamed statement: an admitted instruction with bytes after it. -/
theorem witness_decode_encode :
    (Instr.ldaImm 0xFF).wellFormed .official151 = true ∧ (Instr.ldaImm 0xFF).wellFormed .docNamed = false ∧
    decode .docNamed [0x6C, 0xFF, 0x10, 0x99] = .ok (.jmpInd 0x10FF) [0x99] ∧ (Instr.jmpInd 0x10FF).wellFormed .docNamed = true := by
  decide

/-- UnmappedBytesAreRejected: each case of the decoder's clause, at the ends of the list. -/
theorem witness_unmapped :
    (0x02 : Byte) ∈ unmappedBytes ∧ (0xFF : Byte) ∈ unmappedBytes ∧ (0xEA : Byte) ∉ unmappedBytes ∧
    (0x69 : Byte) ∈ namedBytes ∧ (0xA9 : Byte) ∉ namedBytes := by
  decide

/-- UnmappedBytesAreRejected and UnmappedOpcodeFaultsAfterTheFetch: the step's clause, under both admitted sets. -/
theorem witness_unmapped_fetch :
    unmappedHere.powered = true ∧
    readByte (serviceInterrupts unmappedHere) (serviceInterrupts unmappedHere).pc ∈ unmappedBytes ∧
    (lookupOpcode .official151 0xFF).isNone = true ∧
    loadHereDocNamed.powered = true ∧ loadHereDocNamed.params.admitted = .docNamed ∧
    readByte (serviceInterrupts loadHereDocNamed) (serviceInterrupts loadHereDocNamed).pc ∉ namedBytes ∧
    (lookupOpcode .docNamed 0xA9).isNone = true := by
  decide

/-- OpcodeAloneFixesTheLength: two different instructions with one opcode byte. -/
theorem witness_same_opcode :
    (encode (.ldaImm 0x01)).head? = (encode (.ldaImm 0x02)).head? ∧ Instr.ldaImm 0x01 ≠ .ldaImm 0x02 := by
  decide

/-- The rows of the tables: each table has the rows its rule gives, among them the ones named here. -/
theorem witness_rows_read (b : Byte) (w : Word) :
    (Rows.adc b w).map Row.instr =
      [.adcIndX b, .adcZp b, .adcImm b, .adcAbs w, .adcIndY b, .adcZpX b, .adcAbsY w, .adcAbsX w] ∧
    (Rows.sbc b w).map Row.instr =
      [.sbcIndX b, .sbcZp b, .sbcImm b, .sbcAbs w, .sbcIndY b, .sbcZpX b, .sbcAbsY w, .sbcAbsX w] ∧
    (Rows.and b w).map Row.instr =
      [.andIndX b, .andZp b, .andImm b, .andAbs w, .andIndY b, .andZpX b, .andAbsY w, .andAbsX w] ∧
    (Rows.ora b w).map Row.instr =
      [.oraIndX b, .oraZp b, .oraImm b, .oraAbs w, .oraIndY b, .oraZpX b, .oraAbsY w, .oraAbsX w] ∧
    (Rows.eor b w).map Row.instr =
      [.eorIndX b, .eorZp b, .eorImm b, .eorAbs w, .eorIndY b, .eorZpX b, .eorAbsY w, .eorAbsX w] ∧
    (Rows.cmp b w).map Row.instr =
      [.cmpIndX b, .cmpZp b, .cmpImm b, .cmpAbs w, .cmpIndY b, .cmpZpX b, .cmpAbsY w, .cmpAbsX w] ∧
    (Rows.cpx b w).map Row.instr = [.cpxImm b, .cpxZp b, .cpxAbs w] ∧
    (Rows.cpy b w).map Row.instr = [.cpyImm b, .cpyZp b, .cpyAbs w] ∧
    (Rows.bit b w).map Row.instr = [.bitZp b, .bitAbs w] ∧
    (Rows.lda b w).map Row.instr =
      [.ldaIndX b, .ldaZp b, .ldaImm b, .ldaAbs w, .ldaIndY b, .ldaZpX b, .ldaAbsY w, .ldaAbsX w] ∧
    (Rows.ldx b w).map Row.instr = [.ldxImm b, .ldxZp b, .ldxAbs w, .ldxZpY b, .ldxAbsY w] ∧
    (Rows.ldy b w).map Row.instr = [.ldyImm b, .ldyZp b, .ldyAbs w, .ldyZpX b, .ldyAbsX w] :=
  ⟨rfl, rfl, rfl, rfl, rfl, rfl, rfl, rfl, rfl, rfl, rfl, rfl⟩

theorem witness_rows_write (b : Byte) (w : Word) :
    (Rows.sta b w).map Row.instr = [.staIndX b, .staZp b, .staAbs w, .staIndY b, .staZpX b, .staAbsY w, .staAbsX w] ∧
    (Rows.stx b w).map Row.instr = [.stxZp b, .stxAbs w, .stxZpY b] ∧
    (Rows.sty b w).map Row.instr = [.styZp b, .styAbs w, .styZpX b] ∧
    (Rows.inc b w).map Row.instr = [.incZp b, .incAbs w, .incZpX b, .incAbsX w] ∧
    (Rows.dec b w).map Row.instr = [.decZp b, .decAbs w, .decZpX b, .decAbsX w] ∧
    (Rows.asl b w).map Row.instr = [.aslZp b, .aslAbs w, .aslZpX b, .aslAbsX w] ∧
    (Rows.lsr b w).map Row.instr = [.lsrZp b, .lsrAbs w, .lsrZpX b, .lsrAbsX w] ∧
    (Rows.rol b w).map Row.instr = [.rolZp b, .rolAbs w, .rolZpX b, .rolAbsX w] ∧
    (Rows.ror b w).map Row.instr = [.rorZp b, .rorAbs w, .rorZpX b, .rorAbsX w] :=
  ⟨rfl, rfl, rfl, rfl, rfl, rfl, rfl, rfl, rfl⟩

/-- NineRotationsRestoreByteAndCarry: both instructions of its list. -/
theorem witness_rotations :
    Instr.rolAcc ∈ [Instr.rolAcc, Instr.rorAcc] ∧ Instr.rorAcc ∈ [Instr.rolAcc, Instr.rorAcc] := by
  decide

/-- BranchesTestTheirFlag: after reset BCC's condition holds and BCS's does not. -/
theorem witness_branches :
    ((!State.reset.flags.c) = true ∧ State.reset.flags.c = false) ∧
    gives (placed 0x02F0 [0x90, 0x20] { State.reset with pc := 0x02F0 }) (fun t => (t.pc, t.pageCrossed)) (0x0312, true) = true := by
  decide

/-- RtsAfterJsrReturnsToTheNextInstruction: the state JSR leaves, with SP at the bottom of the page so that the frame wraps. -/
theorem witness_rts_after_jsr :
    ∃ t, exec (.jsr 0x3000) { State.reset with sp := 0x00 } = .next t ∧ t.sp = 0xFE ∧
      readByte t (stackAddr 0x00) = 0xC0 ∧ readByte t (stackAddr (0x00 - 1)) = 0x02 :=
  ⟨_, rfl, by decide, by decide, by decide⟩

/-- JsrPushesTheAddressOfItsLastByte, BrkEntersThroughTheIrqVector, InterruptEntryPushesAFrame: an address outside the slots. -/
theorem witness_outside_the_slots :
    (0x0100 : Word) ≠ stackAddr 0xFD ∧ (0x0100 : Word) ≠ stackAddr (0xFD - 1) ∧ (0x0100 : Word) ≠ stackAddr (0xFD - 2) := by
  decide

/-- RtiUndoesAnInterruptEntry: the state the entry leaves has the SP and the frame asked for. -/
theorem witness_rti_after_entry :
    ∃ u : State, u.sp = unmasked.sp - 3 ∧
      ∀ k ∈ [0, 1, 2], readByte u (stackAddr (unmasked.sp - BitVec.ofNat 8 k)) =
        readByte (interruptEntry 0xFFFA false unmasked) (stackAddr (unmasked.sp - BitVec.ofNat 8 k)) :=
  ⟨interruptEntry 0xFFFA false unmasked, by decide, by decide⟩

/-- WritesChangeOneByte: two addresses, the highest and the lowest. -/
theorem witness_write :
    (0xFFFF : Word) ≠ 0x0000 ∧ readByte (writeByte State.reset 0xFFFF 0x5A) 0xFFFF = 0x5A ∧
      readByte (writeByte (writeByte State.reset 0x0000 0x11) 0xFFFF 0x5A) 0x0000 = 0x11 := by
  decide

/-- PopUndoesPushWithinTheStackPage: the addresses just outside the page, and one inside other than the slot. -/
theorem witness_stack_page :
    (0x00FF : Word).toNat < 256 ∧ 511 < (0x0200 : Word).toNat ∧ (0x0100 : Word).toNat ≠ 256 + State.reset.sp.toNat := by
  decide

/-- ServicePriorityIsResetNmiIrq, ResetServiceLoadsTheResetVector, NmiAndIrqEnterThroughTheirVectors, MaskedIrqIsANoOp: a state for
each line of R182's table. -/
theorem witness_services :
    selectService (interruptible.setResetReq true) = some .reset ∧
    selectService ((interruptible.setResetReq true).setNmiReq true) = some .reset ∧
    selectService (interruptible.setNmiReq true) = some .nmi ∧
    selectService (unmasked.setIrqLine true) = some .irq ∧ (unmasked.setIrqLine true).flags.i = false ∧
    selectService (interruptible.setIrqLine true) = none ∧ (interruptible.setIrqLine true).flags.i = true ∧
    selectService interruptible = none := by
  decide

/-- OnlyUnmappedBytesAndNoPowerStopAStep, StepKeepsInv, StepCycleBounds: a step of each outcome. -/
theorem witness_outcomes :
    (∃ t, step loadHere = .next t) ∧ (∃ e, step unmappedHere = .fault e) ∧ step State.created = .refused .notPoweredOn :=
  ⟨⟨_, rfl⟩, ⟨_, rfl⟩, rfl⟩

/-- StepCycleBounds: a fault with and without a service. -/
theorem witness_fault_cycles :
    selectService unmappedHere = none ∧ selectService (placed 0xA000 [0xFF] (interruptible.setNmiReq true)) ≠ none := by
  decide

/-- StepAndResetNeedPower and HostCallsAnswerAsTheirTable. -/
theorem witness_power : State.created.powered = false ∧ State.reset.powered = true := by decide

theorem witness_setters :
    ∀ call ∈ [HostCall.setReset, .setNmi, .setIrq true, .setIrq false], (hostCall call State.created).1 = .nothing := by
  decide

/-- StepKeepsInv and HostCallsKeepMemoryCanonical: states with the invariant and some memory, one that steps, one that faults. -/
theorem witness_inv : loadHere.Inv ∧ unmappedHere.Inv ∧ State.created.mem.wf = true := by decide

/-- StepWritesNoRequestButByService: a next state, and a fault's state, with an NMI left pending behind a reset. -/
theorem witness_requests :
    (∃ t, step ((interruptible.setResetReq true).setNmiReq true) = .next t ∧ t.nmiReq = true) ∧
    (∃ e, step unmappedHere = .fault e ∧ e.after.nmiReq = false) :=
  ⟨⟨_, rfl, by decide⟩, ⟨_, rfl, by decide⟩⟩

/-- OnlyTheirWritersChangeTheFlags: NOP writes none, and BRK writes I only under ENTRY_SETS_I. -/
theorem witness_flag_writers :
    Instr.nop.writesC = false ∧ Instr.nop.writesNZ = false ∧ Instr.nop.writesV = false ∧
    Instr.nop.writesI Params.default = false ∧ Instr.nop.writesD = false ∧
    Instr.brk.writesI { Params.default with entrySetsI := false } = false ∧ (∃ t, exec .nop State.reset = .next t) :=
  ⟨rfl, rfl, rfl, rfl, rfl, rfl, _, rfl⟩

/-- OnlyTheirWritersChangeTheRegisters: LSR on memory writes no register, LSR A writes A; PHA writes SP alone. -/
theorem witness_register_writers :
    (Instr.lsrZp 0x10).writesA = false ∧ Instr.lsrAcc.writesA = true ∧ Instr.pha.writesA = false ∧
    Instr.pha.writesX = false ∧ Instr.pha.writesY = false ∧ (Instr.staZp 0x10).writesSP = false ∧ Instr.pha.writesSP = true := by
  decide

/-- OnlyTheStoredBytesChange: a store, a push of three bytes, and an instruction that stores nothing, with an address left alone. -/
theorem witness_stored :
    storedAddrs (.staZpX 0xFF) { State.reset with x := 0x01 } = [0x0000] ∧
    storedAddrs .brk State.reset = [0x01FD, 0x01FC, 0x01FB] ∧ storedAddrs (.ldaZp 0x10) State.reset = [] ∧
    (0x0001 : Word) ∉ storedAddrs (.staZpX 0xFF) { State.reset with x := 0x01 } := by
  decide

/-- DecimalFlagAffectsNoOtherState: an instruction of each clause. -/
theorem witness_decimal :
    (Instr.adcImm 0x01).mnemonic ∉ [Mnemonic.php, .brk, .plp, .rti, .cld, .sed] ∧
    Instr.plp.mnemonic ∈ [Mnemonic.plp, .rti, .cld, .sed] ∧
    (∃ t, exec (.adcImm 0x01) State.reset = .next t) ∧ (∃ t, exec .plp State.reset = .next t) :=
  ⟨by decide, by decide, ⟨_, rfl⟩, ⟨_, rfl⟩⟩

/-- HostCallsAnswerAsTheirTable: a step's Ok(n), its fault, and a memory write beside which another byte stays. -/
theorem witness_host_calls :
    (hostCall .step loadHere).1 = .ok 2 ∧ (hostCall .step unmappedHere).1 = .unmappedOpcode 0xFF 0x0200 ∧
    (hostCall (.readMemory 0x0201) loadHere).1 = .byte 0x42 ∧
    readByte (hostCall (.writeMemory 0xFFFF 0x5A) loadHere).2 0xFFFF = 0x5A ∧ (0x0201 : Word) ≠ 0xFFFF ∧
    readByte (hostCall (.writeMemory 0xFFFF 0x5A) loadHere).2 0x0201 = 0x42 := by
  decide

/-- EndOfRunAndSelfJump: a self-jump; one that an NMI would leave; and where the rule fails, a step of each outcome. -/
theorem witness_self_jump : haltsHere selfJump = true ∧ haltsHere (selfJump.setNmiReq true) = false := by decide

theorem witness_run_goes_on :
    (haltsHere loadHere = false ∧ ∃ t, step loadHere = .next t) ∧
    (haltsHere unmappedHere = false ∧ ∃ f, step unmappedHere = .fault f) ∧
    (haltsHere State.created = false ∧ step State.created = .refused .notPoweredOn) :=
  ⟨⟨by decide, _, rfl⟩, ⟨by decide, _, rfl⟩, by decide, rfl⟩

/-- R203: a run that halts after one step, one that faults, one that is cut. -/
theorem test_run_ends :
    runToEnd 5 (placed 0x0202 [0x4C, 0x02, 0x02] loadHere) =
      .halted { placed 0x0202 [0x4C, 0x02, 0x02] loadHere with a := 0x42, pc := 0x0202, cycles := 2 } ∧
    runToEnd 5 unmappedHere = .faulted (.unmappedOpcode 0xFF 0x0200 { unmappedHere with pc := 0x0201 }) ∧
    runToEnd 0 loadHere = .cut loadHere := by
  decide

/-- LoadGivesTheResolvedOperand (R85, R97): the byte itself, and the byte at an address a page further. -/
theorem test_load_source :
    loadSource (.immediate 0x7F) { State.reset with pc := 0x0201, pageCrossed := true } =
      (0x7F, { State.reset with pc := 0x0202 }) ∧
    (loadSource (.memory (.absoluteX 0x12FF)) (placed 0x1300 [0x02] { State.reset with x := 0x01 })).1 = 0x02 ∧
    (loadSource (.memory (.absoluteX 0x12FF)) { State.reset with x := 0x01 }).2.pageCrossed = true := by
  decide

end Sys2Proof.Tests
end

section
/-! SUPPORT. The status byte (spec/10_state.md R26-R28) and the state after power-on. -/

namespace Sys2Proof.Machine

/-- Bit by bit from bit 7 down: N V 1 b D I Z C (R27). -/
theorem statusByte_toNat (b : Bool) (f : Flags) :
    (statusByte b f).toNat = 128 * f.n.toNat + 64 * f.v.toNat + 32 + 16 * b.toNat + 8 * f.d.toNat +
      4 * f.i.toNat + 2 * f.z.toNat + f.c.toNat := by
  obtain ⟨n, v, d, i, z, c⟩ := f
  revert b n v d i z c
  decide

theorem flagsOfByte_statusByte (b : Bool) (f : Flags) : flagsOfByte (statusByte b f) = f := by
  obtain ⟨n, v, d, i, z, c⟩ := f
  revert b n v d i z c
  decide

/-- Loading a byte and pushing the flags gives the byte back in every bit with storage (D6). -/
theorem statusByte_flagsOfByte (b : Bool) (v : Byte) :
    statusByte b (flagsOfByte v) = (v &&& 0xCF) ||| 0x20 ||| (if b = true then 0x10 else 0x00) := by
  revert b v
  decide

/-- Settles O38: the layout, and both round trips. -/
theorem statusByteLayout : Obligations.StatusByteLayout := fun b f v =>
  ⟨statusByte_toNat b f, flagsOfByte_statusByte b f, statusByte_flagsOfByte b v⟩

/-- Settles O50: `State.reset` lists no memory cell and is powered. -/
theorem invHoldsAtReset : Obligations.InvHoldsAtReset :=
  ⟨State.reset_mem_wf, rfl⟩

end Sys2Proof.Machine
end

section
/-! SUPPORT. What every instruction leaves unchanged. An instruction is bookkeeping (PC, `page_crossed`, the cycle counter, one
byte stored) and one effect of its own; a relation the bookkeeping keeps holds across the instruction when it holds
across that effect. -/

namespace Sys2Proof.Machine

/-! ### Bookkeeping and effect -/

/-- A preorder on states that holds across every bookkeeping update. -/
structure Frame (R : State → State → Prop) : Prop where
  refl : ∀ s, R s s
  trans : ∀ {s t u}, R s t → R t u → R s u
  setPC : ∀ s v, R s (s.setPC v)
  setPageCrossed : ∀ s b, R s (s.setPageCrossed b)
  addCycles : ∀ s n, R s (s.addCycles n)
  writeByte : ∀ s a v, R s (writeByte s a v)

/-- What a shape does to the state beside bookkeeping, `v` being the byte it reads. The call only moves SP, here to any
value `v`. -/
def ExecShape.effect (v : Byte) (s : State) : ExecShape → State
  | .read _ body _ => body v s
  | .store _ _ _ => s
  | .modify _ op .accumulator => (s.setA (op s.a s.flags).1).setFlags (op s.a s.flags).2
  | .modify _ op (.memory _) => s.setFlags (op v s.flags).2
  | .implied _ body => body s
  | .branch _ _ _ => s
  | .jump _ _ => s
  | .call _ => s.setSP v

section
variable {R : State → State → Prop} (hR : Frame R)
include hR

theorem Frame.fetchOpcode (s : State) : R s (fetchOpcode s) := hR.setPC s _

theorem Frame.consume (count : Nat) (c : Bool) (s : State) : R s (consume count c s) :=
  hR.trans (hR.setPC s _) (hR.setPageCrossed _ c)

theorem Frame.resolve (m : AddrMode) (s : State) : R s (resolve m (Machine.fetchOpcode s)).2 :=
  hR.trans (hR.fetchOpcode s) (hR.consume _ _ _)

theorem Frame.loadSource (src : Source) (s : State) : R s (loadSource src (Machine.fetchOpcode s)).2 := by
  cases src with
  | immediate nn => exact hR.trans (hR.fetchOpcode s) (hR.consume _ _ _)
  | memory m => exact hR.resolve m s

theorem Frame.push (hsp : ∀ s v, R s (s.setSP v)) (v : Byte) (s : State) : R s (push v s) :=
  hR.trans (hR.writeByte s _ v) (hsp _ _)

/-- A relation the bookkeeping keeps holds across an instruction when it holds across the instruction's effect. -/
theorem Frame.run (e : ExecShape) (he : ∀ v s, R s (e.effect v s)) (s : State) : R s (e.run s) := by
  cases e with
  | read opcode body src => exact hR.trans (hR.trans (hR.loadSource src s) (he _ _)) (hR.addCycles _ _)
  | store opcode value m => exact hR.trans (hR.trans (hR.resolve m s) (hR.writeByte _ _ _)) (hR.addCycles _ _)
  | modify opcode op target =>
    cases target with
    | accumulator =>
      exact hR.trans (hR.trans (hR.trans (hR.fetchOpcode s) (hR.consume 0 false _)) (he 0 _)) (hR.addCycles _ _)
    | memory m =>
      exact hR.trans (hR.trans (hR.trans (hR.resolve m s) (hR.writeByte _ _ _)) (he _ _)) (hR.addCycles _ _)
  | implied opcode body =>
    exact hR.trans (hR.trans (hR.trans (hR.fetchOpcode s) (hR.consume 0 false _)) (he 0 _)) (hR.addCycles _ _)
  | branch opcode cond rr =>
    unfold ExecShape.run branchInstr
    dsimp only
    split
    · exact hR.trans (hR.trans (hR.resolve _ s) (hR.setPC _ _)) (hR.addCycles _ _)
    · exact hR.trans (hR.resolve _ s) (hR.addCycles _ _)
  | jump opcode m => exact hR.trans (hR.trans (hR.resolve m s) (hR.setPC _ _)) (hR.addCycles _ _)
  | call hhll =>
    have hpush := hR.push fun s v => he v s
    exact hR.trans (hR.trans (hR.trans (hR.trans (hR.resolve _ s) (hpush _ _)) (hpush _ _)) (hR.setPC _ _))
      (hR.addCycles _ _)

/-- The same of `exec`. -/
theorem Frame.exec {i : Instr} (hi : ∀ v s, R s ((execShape i).effect v s)) {s t : State} (h : exec i s = .next t) :
    R s t :=
  shape_of_exec h ▸ hR.run (execShape i) hi s

end

/-- A view of the state that bookkeeping does not show in is kept by it. -/
theorem Frame.of_view {α : Type} (view : State → α) (hpc : ∀ s v, view (s.setPC v) = view s)
    (hcrossed : ∀ s b, view (s.setPageCrossed b) = view s) (hcycles : ∀ s n, view (s.addCycles n) = view s)
    (hbyte : ∀ s a v, view (Machine.writeByte s a v) = view s) : Frame fun s t => view t = view s where
  refl _ := rfl
  trans h k := k.trans h
  setPC := hpc
  setPageCrossed := hcrossed
  addCycles := hcycles
  writeByte := hbyte

theorem Frame.cycles_le : Frame fun s t => s.cycles ≤ t.cycles where
  refl _ := Nat.le_refl _
  trans h k := Nat.le_trans h k
  setPC _ _ := Nat.le_refl _
  setPageCrossed _ _ := Nat.le_refl _
  addCycles _ _ := Nat.le_add_right _ _
  writeByte _ _ _ := Nat.le_refl _

/-! ### The fields an instruction is not a writer of -/

/-- A value, hidden when it may be written. -/
def unwritten {α : Type} (written : Bool) (v : α) : Option α := bif written then none else some v

theorem unwritten_inj {α : Type} {w : Bool} {u v : α} (h : unwritten w u = unwritten w v) (hw : w = false) : u = v := by
  subst hw
  exact Option.some.inj h

/-- BRK's `I <- I or ENTRY_SETS_I` does not show where ENTRY_SETS_I makes it a writer of I. -/
theorem unwritten_or (w v : Bool) : unwritten w (v || w) = unwritten w v := by
  cases w <;> simp [unwritten]

/-- The registers `i` is not a writer of (R22-R25), and what no instruction writes. -/
def unwrittenRegisters (i : Instr) (s : State) :=
  (unwritten i.writesA s.a, unwritten i.writesX s.x, unwritten i.writesY s.y, unwritten i.writesSP s.sp,
    s.resetReq, s.nmiReq, s.irqLine, s.powered, s.params)

/-- The flags `i` is not a writer of (R36), and the parameters, on which BRK's writing of I depends. -/
def unwrittenFlags (i : Instr) (s : State) :=
  (unwritten i.writesC s.flags.c, unwritten i.writesNZ (s.flags.z, s.flags.n), unwritten i.writesV s.flags.v,
    unwritten (i.writesI s.params) s.flags.i, unwritten i.writesD s.flags.d, s.params)

/-- All that BRK's effect changes (R175): its frame is written out, since `interruptEntry` branches on ENTRY_SETS_I. -/
theorem brk_effect (v : Byte) (s : State) :
    (execShape .brk).effect v s = { s with
      pc := (softwareInterrupt s).pc
      sp := s.sp - 3
      flags := { s.flags with i := s.flags.i || s.params.entrySetsI }
      mem := (softwareInterrupt s).mem } := by
  show interruptEntry irqVector true (s.setPC (s.pc + 1)) = _
  rw [softwareInterrupt, interruptEntry_eq]
  rfl

theorem effect_unwrittenRegisters (i : Instr) (v : Byte) (s : State) :
    unwrittenRegisters i ((execShape i).effect v s) = unwrittenRegisters i s := by
  cases i
  case brk => rw [brk_effect]; rfl
  all_goals rfl

theorem effect_unwrittenFlags (i : Instr) (v : Byte) (s : State) :
    unwrittenFlags i ((execShape i).effect v s) = unwrittenFlags i s := by
  cases i
  case brk =>
    rw [brk_effect]
    simp [unwrittenFlags, Instr.writesI, Instr.mnemonic, unwritten_or]
  all_goals rfl

theorem effect_cycles (i : Instr) (v : Byte) (s : State) : ((execShape i).effect v s).cycles = s.cycles := by
  cases i
  case brk => rw [brk_effect]
  all_goals rfl

theorem exec_unwrittenRegisters {i : Instr} {s t : State} (h : exec i s = .next t) :
    unwrittenRegisters i t = unwrittenRegisters i s :=
  (Frame.of_view (unwrittenRegisters i) (fun _ _ => rfl) (fun _ _ => rfl) (fun _ _ => rfl) fun _ _ _ => rfl).exec
    (effect_unwrittenRegisters i) h

theorem exec_unwrittenFlags {i : Instr} {s t : State} (h : exec i s = .next t) :
    unwrittenFlags i t = unwrittenFlags i s :=
  (Frame.of_view (unwrittenFlags i) (fun _ _ => rfl) (fun _ _ => rfl) (fun _ _ => rfl) fun _ _ _ => rfl).exec
    (effect_unwrittenFlags i) h

/-- No instruction takes cycles back (R224). -/
theorem exec_cycles_le {i : Instr} {s t : State} (h : exec i s = .next t) : s.cycles ≤ t.cycles :=
  Frame.cycles_le.exec (fun v s => Nat.le_of_eq (effect_cycles i v s).symm) h

/-- Settles O55: the registers' view is the same before and after. -/
theorem onlyTheirWritersChangeTheRegisters : Obligations.OnlyTheirWritersChangeTheRegisters := by
  intro i s t h
  have hview := exec_unwrittenRegisters h
  simp only [unwrittenRegisters, Prod.mk.injEq] at hview
  obtain ⟨ha, hx, hy, hsp, hlatched⟩ := hview
  exact ⟨unwritten_inj ha, unwritten_inj hx, unwritten_inj hy, unwritten_inj hsp, hlatched⟩

/-- Settles O54: the flags' view is the same before and after; BRK's case of I is `unwritten_or`. -/
theorem onlyTheirWritersChangeTheFlags : Obligations.OnlyTheirWritersChangeTheFlags := by
  intro i s t h
  have hview := exec_unwrittenFlags h
  simp only [unwrittenFlags, Prod.mk.injEq] at hview
  obtain ⟨hc, hnz, hv, hi, hd, hparams⟩ := hview
  rw [hparams] at hi
  exact ⟨unwritten_inj hc, fun hw => Prod.mk.inj (unwritten_inj hnz hw), unwritten_inj hv, unwritten_inj hi,
    unwritten_inj hd⟩

/-! ### Requests across a step -/

/-- What an instruction, or a fault, leaves alone of a step's requests, and the counter that only grows. -/
structure KeepsRequests (s t : State) : Prop where
  resetReq : t.resetReq = s.resetReq
  nmiReq : t.nmiReq = s.nmiReq
  irqLine : t.irqLine = s.irqLine
  powered : t.powered = s.powered
  params : t.params = s.params
  cycles : s.cycles ≤ t.cycles

theorem exec_keepsRequests {i : Instr} {s t : State} (h : exec i s = .next t) : KeepsRequests s t := by
  obtain ⟨-, -, -, -, hreset, hnmi, hirq, hpowered, hparams⟩ := onlyTheirWritersChangeTheRegisters i s t h
  exact ⟨hreset, hnmi, hirq, hpowered, hparams, exec_cycles_le h⟩

theorem fetchOpcode_keepsRequests (s : State) : KeepsRequests s (fetchOpcode s) :=
  ⟨rfl, rfl, rfl, rfl, rfl, Nat.le_refl _⟩

/-- Every state a step leaves comes from the interrupt check by one instruction, or by the fetch of an unmapped byte
(R180, R191). -/
theorem step_cases {s t : State} (h : step s = .next t ∨ ∃ f, step s = .fault f ∧ f.after = t) :
    (∃ i, exec i (serviceInterrupts s) = .next t) ∨ t = fetchOpcode (serviceInterrupts s) := by
  unfold step runStep fetchDecodeExecute at h
  split at h
  · split at h
    · obtain h | ⟨f, hf, -⟩ := h
      · exact .inl ⟨_, h⟩
      · rw [exec_eq_shape] at hf
        cases hf
    · obtain h | ⟨f, hf, rfl⟩ := h
      · cases h
      · cases hf
        exact .inr rfl
  · obtain h | ⟨f, hf, -⟩ := h
    · cases h
    · cases hf

/-- The four things the interrupt check can do, with the request that selects each (R182). -/
theorem serviceInterrupts_cases (s : State) :
    (s.resetReq = true ∧ serviceInterrupts s = (resetService s).addCycles 7) ∨
    (s.resetReq = false ∧ s.nmiReq = true ∧ serviceInterrupts s = (nmiEntry s).addCycles 7) ∨
    (s.resetReq = false ∧ s.nmiReq = false ∧ (s.irqLine && !s.flags.i) = true ∧
      serviceInterrupts s = (irqEntry s).addCycles 7) ∨
    (s.resetReq = false ∧ s.nmiReq = false ∧ (s.irqLine && !s.flags.i) = false ∧ serviceInterrupts s = s) := by
  unfold serviceInterrupts selectService
  cases s.resetReq <;> cases s.nmiReq <;> cases s.irqLine && !s.flags.i <;> simp

/-- The interrupt check clears the request it services and no other (R183-R185, D5, D25). -/
theorem serviceInterrupts_requests (s : State) :
    (serviceInterrupts s).resetReq = false ∧ (serviceInterrupts s).nmiReq = (s.nmiReq && s.resetReq) ∧
    (serviceInterrupts s).irqLine = s.irqLine ∧ (serviceInterrupts s).powered = s.powered ∧
    (serviceInterrupts s).params = s.params ∧ s.cycles ≤ (serviceInterrupts s).cycles := by
  obtain ⟨hreset, h⟩ | ⟨hreset, hnmi, h⟩ | ⟨hreset, hnmi, -, h⟩ | ⟨hreset, hnmi, -, h⟩ := serviceInterrupts_cases s
  · simp [h, hreset, resetService]
  · simp [h, hreset, hnmi, nmiEntry, interruptEntry_eq]
  · simp [h, hreset, hnmi, irqEntry, interruptEntry_eq]
  · simp [h, hreset, hnmi]

/-- Settles O53: after the interrupt check neither the instruction nor the fault writes a request. -/
theorem stepWritesNoRequestButByService : Obligations.StepWritesNoRequestButByService := by
  intro s t h
  obtain ⟨hreset, hnmi, hirq, hpowered, hparams, hcycles⟩ := serviceInterrupts_requests s
  have hkept : KeepsRequests (serviceInterrupts s) t := by
    obtain ⟨i, hexec⟩ | rfl := step_cases h
    · exact exec_keepsRequests hexec
    · exact fetchOpcode_keepsRequests _
  exact ⟨hkept.irqLine.trans hirq, hkept.powered.trans hpowered, hkept.params.trans hparams,
    hkept.resetReq.trans hreset, hkept.nmiReq.trans hnmi, Nat.le_trans hcycles hkept.cycles⟩

end Sys2Proof.Machine
end

section
/-! SUPPORT. The decimal flag (R37, D2): an instruction that does not push the status byte does the same whatever D is. -/

namespace Sys2Proof.Machine

/-- D replaced by `d`, and nothing else. -/
def State.withD (d : Bool) (s : State) : State := s.setFlags (s.flags.setD d)

theorem withD_flags (d : Bool) (s : State) : (s.withD d).flags = s.flags.setD d := rfl

theorem readByte_withD (d : Bool) (s : State) (a : Word) : readByte (s.withD d) a = readByte s a := rfl

/-! ### Operand resolution does not see D -/

theorem effectiveAddr_withD (m : AddrMode) (d : Bool) (s : State) :
    effectiveAddr m (s.withD d) = effectiveAddr m s := by
  cases m <;> rfl

theorem addrCrossed_withD (m : AddrMode) (d : Bool) (s : State) : addrCrossed m (s.withD d) = addrCrossed m s := by
  cases m <;> rfl

theorem fetchOpcode_withD (d : Bool) (s : State) : fetchOpcode (s.withD d) = (fetchOpcode s).withD d := rfl

theorem resolve_withD (m : AddrMode) (d : Bool) (s : State) :
    resolve m (s.withD d) = ((resolve m s).1, (resolve m s).2.withD d) := by
  rw [resolve, effectiveAddr_withD, addrCrossed_withD]
  rfl

theorem loadSource_withD (src : Source) (d : Bool) (s : State) :
    loadSource src (s.withD d) = ((loadSource src s).1, (loadSource src s).2.withD d) := by
  cases src with
  | immediate nn => rfl
  | memory m => simp only [loadSource, resolve_withD]; rfl

/-! ### A shape whose own part does not see D -/

/-- The functions a shape is made of do the same whatever D is. -/
def ExecShape.IgnoresD (d : Bool) : ExecShape → Prop
  | .read _ body _ => ∀ v s, body v (s.withD d) = (body v s).withD d
  | .store _ value _ => ∀ s, value (s.withD d) = value s
  | .modify _ op _ => ∀ v f, op v (f.setD d) = ((op v f).1, (op v f).2.setD d)
  | .implied _ body => ∀ s, body (s.withD d) = (body s).withD d
  | .branch _ cond _ => ∀ f, cond (f.setD d) = cond f
  | .jump _ _ => True
  | .call _ => True

theorem ExecShape.run_withD {e : ExecShape} {d : Bool} (he : e.IgnoresD d) (s : State) :
    e.run (s.withD d) = (e.run s).withD d := by
  cases e with
  | read opcode body src =>
    simp only [run, readInstr, fetchOpcode_withD, loadSource_withD, he _ _]
    rfl
  | store opcode value m =>
    simp only [run, storeInstr, fetchOpcode_withD, resolve_withD, he _]
    rfl
  | modify opcode op target =>
    cases target with
    | accumulator =>
      have hop : op s.a (s.flags.setD d) = ((op s.a s.flags).1, (op s.a s.flags).2.setD d) := he _ _
      show ((((resolveNone (fetchOpcode s)).withD d).setA (op s.a (s.flags.setD d)).1).setFlags
        (op s.a (s.flags.setD d)).2).addCycles _ = _
      rw [hop]
      rfl
    | memory m =>
      simp only [run, modifyInstr, fetchOpcode_withD, resolve_withD, readByte_withD, withD_flags, he _ _]
      rfl
  | implied opcode body => exact congrArg (State.addCycles · (baseCycles opcode)) (he (resolveNone (fetchOpcode s)))
  | branch opcode cond rr =>
    simp only [run, branchInstr, fetchOpcode_withD, resolve_withD, withD_flags, he _]
    split <;> rfl
  | jump opcode m =>
    simp only [run, jumpInstr, fetchOpcode_withD, resolve_withD]
    rfl
  | call hhll => rfl

theorem execShape_ignoresD (i : Instr) (d : Bool) (h : i.mnemonic ∉ [Mnemonic.php, .brk, .plp, .rti, .cld, .sed]) :
    (execShape i).IgnoresD d := by
  cases i
  case php | brk | plp | rti | cld | sed => exact absurd (by decide) h
  case jmpAbs | jmpInd | jsr => exact True.intro
  all_goals
    dsimp only [execShape, ExecShape.IgnoresD]
    intros
    rfl

/-! ### The instructions that write D -/

/-- The body of an instruction that writes D overwrites whatever D was. -/
def ExecShape.OverwritesD (d : Bool) : ExecShape → Prop
  | .implied _ body => ∀ s, body (s.withD d) = body s
  | _ => False

theorem ExecShape.run_withD_of_overwritesD {e : ExecShape} {d : Bool} (he : e.OverwritesD d) (s : State) :
    e.run (s.withD d) = e.run s := by
  cases e with
  | implied opcode body => exact congrArg (State.addCycles · (baseCycles opcode)) (he (resolveNone (fetchOpcode s)))
  | _ => exact he.elim

theorem execShape_overwritesD (i : Instr) (d : Bool) (h : i.mnemonic ∈ [Mnemonic.plp, .rti, .cld, .sed]) :
    (execShape i).OverwritesD d := by
  cases i
  case plp | rti | cld | sed => exact fun _ => rfl
  all_goals simp [Instr.mnemonic] at h

/-- Settles O57: with `s.withD d` for the changed state, each clause is its shape's lemma. -/
theorem decimalFlagAffectsNoOtherState : Obligations.DecimalFlagAffectsNoOtherState := by
  intro i s t d h
  rw [shape_of_exec h]
  constructor
  · intro hi
    exact (exec_eq_shape i (s.withD d)).trans
      (congrArg _ (ExecShape.run_withD (execShape_ignoresD i d hi) s))
  · intro hi
    exact (exec_eq_shape i (s.withD d)).trans
      (congrArg _ (ExecShape.run_withD_of_overwritesD (execShape_overwritesD i d hi) s))

end Sys2Proof.Machine
end

section
/-! SUPPORT. Memory (spec/20_memory.md): a write replaces one byte, every step keeps the canonical form, and an instruction changes the
bytes it stores to and no other. -/

namespace Sys2Proof.Machine

/-! ### The canonical form across a step -/

theorem Frame.mem_wf : Frame fun s t => s.mem.wf = true → t.mem.wf = true where
  refl _ h := h
  trans h k := k ∘ h
  setPC _ _ h := h
  setPageCrossed _ _ h := h
  addCycles _ _ h := h
  writeByte _ a v h := writeByte_mem_wf a v h

/-- Beside bookkeeping only the pushes write memory (R100, R186). -/
theorem effect_mem_wf (i : Instr) (v : Byte) (s : State) (h : s.mem.wf = true) :
    ((execShape i).effect v s).mem.wf = true := by
  cases i
  case pha | php => exact push_mem_wf _ h
  case brk => exact interruptEntry_mem_wf irqVector true h
  all_goals exact h

theorem exec_mem_wf {i : Instr} {s t : State} (h : exec i s = .next t) : s.mem.wf = true → t.mem.wf = true :=
  Frame.mem_wf.exec (effect_mem_wf i) h

theorem serviceInterrupts_mem_wf {s : State} (h : s.mem.wf = true) : (serviceInterrupts s).mem.wf = true := by
  obtain ⟨-, hs⟩ | ⟨-, -, hs⟩ | ⟨-, -, -, hs⟩ | ⟨-, -, -, hs⟩ := serviceInterrupts_cases s <;> rw [hs]
  · exact h
  · exact interruptEntry_mem_wf nmiVector false h
  · exact interruptEntry_mem_wf irqVector false h
  · exact h

/-- A step answers a refusal only before the first powerOn (R213). -/
theorem unpowered_of_step_refused {s : State} {r : Refusal} (h : step s = .refused r) : s.powered = false := by
  unfold step runStep fetchDecodeExecute at h
  split at h
  · split at h
    · rw [exec_eq_shape] at h
      cases h
    · cases h
  · exact Bool.eq_false_of_not_eq_true ‹_›

/-- The invariant holds in whatever state a step leaves, after a fault too (R191). -/
theorem step_inv {s t : State} (h : step s = .next t ∨ ∃ f, step s = .fault f ∧ f.after = t) (hs : s.Inv) : t.Inv := by
  obtain ⟨hwf, hpowered⟩ := hs
  have hserviced := serviceInterrupts_mem_wf hwf
  have hmem : t.mem.wf = true := by
    obtain ⟨i, hexec⟩ | rfl := step_cases h
    · exact exec_mem_wf hexec hserviced
    · exact hserviced
  obtain ⟨-, hkept, -⟩ := stepWritesNoRequestButByService s t h
  exact ⟨hmem, hkept.trans hpowered⟩

/-- Settles O51: `step_inv` for both states a step can leave; a powered core is not refused. -/
theorem stepKeepsInv : Obligations.StepKeepsInv := by
  intro s hs
  cases h : step s with
  | next t => exact step_inv (.inl h) hs
  | fault f => exact step_inv (.inr ⟨f, h, rfl⟩) hs
  | refused r => exact Bool.false_ne_true ((unpowered_of_step_refused h).symm.trans hs.2)

/-! ### One write -/

/-- Settles O37: reading after a write, at the address and beside it. -/
theorem writesChangeOneByte : Obligations.WritesChangeOneByte := fun s a v =>
  ⟨readByte_writeByte_same s a v, fun _ h => readByte_writeByte_ne s v h, rfl⟩

/-! ### The bytes an instruction stores to -/

theorem storedAddrs_pha (s : State) : storedAddrs .pha s = [stackAddr s.sp] := by
  simp [storedAddrs, storePlace, pushCount, Instr.mnemonic]

theorem storedAddrs_php (s : State) : storedAddrs .php s = [stackAddr s.sp] := by
  simp [storedAddrs, storePlace, pushCount, Instr.mnemonic]

theorem storedAddrs_jsr (hhll : Word) (s : State) :
    storedAddrs (.jsr hhll) s = [stackAddr s.sp, stackAddr (s.sp - 1)] := by
  simp [storedAddrs, storePlace, pushCount, Instr.mnemonic, List.range_succ]

theorem storedAddrs_brk (s : State) :
    storedAddrs .brk s = [stackAddr s.sp, stackAddr (s.sp - 1), stackAddr (s.sp - 2)] := by
  simp [storedAddrs, storePlace, pushCount, Instr.mnemonic, List.range_succ]

/-- The addresses a shape stores to by itself, whatever its body pushes: its memory operand (R97), or the return address's two
slots (R155). -/
def ExecShape.stored (s : State) : ExecShape → List Word
  | .store _ _ m | .modify _ _ (.memory m) => [effectiveAddr m (fetchOpcode s)]
  | .call _ => [stackAddr s.sp, stackAddr (s.sp - 1)]
  | _ => []

theorem execShape_stored_subset (i : Instr) (s : State) : (execShape i).stored s ⊆ storedAddrs i s := by
  cases i
  case jsr hhll =>
    rw [storedAddrs_jsr]
    exact List.Subset.refl _
  case pha | php | brk => exact List.nil_subset _
  all_goals exact List.Subset.refl _

/-- An interrupt entry changes the three slots of its frame and no other byte (R186). -/
theorem readByte_interruptEntry_ne (vec : Word) (brk : Bool) (s : State) {a : Word} (h0 : a ≠ stackAddr s.sp)
    (h1 : a ≠ stackAddr (s.sp - 1)) (h2 : a ≠ stackAddr (s.sp - 2)) :
    readByte (interruptEntry vec brk s) a = readByte s a := by
  have hframe : a ≠ stackAddr (push16 s.pc s).sp := by rwa [push16_eq]
  calc readByte (interruptEntry vec brk s) a
      = readByte (push (statusByte brk s.flags) (push16 s.pc s)) a :=
        readByte_congr (by rw [interruptEntry_eq]) a
    _ = readByte (push16 s.pc s) a := readByte_push_ne _ _ hframe
    _ = readByte s a := readByte_push16_ne s.pc s h0 h1

/-- An instruction's effect keeps every byte but the slots it pushes to; the effect runs after the fetch, in a state `u`
with the same SP. -/
theorem readByte_effect (i : Instr) (v : Byte) {s u : State} {a : Word} (hsp : u.sp = s.sp) (ha : a ∉ storedAddrs i s) :
    readByte ((execShape i).effect v u) a = readByte u a := by
  cases i
  case pha | php =>
    simp only [storedAddrs_pha, storedAddrs_php, ← hsp, List.mem_singleton] at ha
    exact readByte_push_ne _ u ha
  case brk =>
    simp only [storedAddrs_brk, ← hsp, List.mem_cons, List.not_mem_nil, or_false, not_or] at ha
    obtain ⟨h0, h1, h2⟩ := ha
    exact readByte_interruptEntry_ne irqVector true (u.setPC (u.pc + 1)) h0 h1 h2
  all_goals rfl

/-- A shape whose effect keeps a byte keeps it, unless it is one the shape stores to. -/
theorem ExecShape.readByte_run (e : ExecShape) {s : State} {a : Word} (hstored : a ∉ e.stored s)
    (heffect : ∀ v u, u.sp = s.sp → readByte (e.effect v u) a = readByte u a) :
    readByte (e.run s) a = readByte s a := by
  cases e with
  | read opcode body src =>
    have hsp : (loadSource src (fetchOpcode s)).2.sp = s.sp := by rw [loadSource_state]; rfl
    exact (heffect _ _ hsp).trans (readByte_congr (loadSource_mem src (fetchOpcode s)) a)
  | store opcode value m =>
    exact readByte_writeByte_ne (resolve m (fetchOpcode s)).2 _ (List.ne_of_not_mem_cons hstored)
  | modify opcode op target =>
    cases target with
    | accumulator => rfl
    | memory m => exact readByte_writeByte_ne (resolve m (fetchOpcode s)).2 _ (List.ne_of_not_mem_cons hstored)
  | implied opcode body => exact heffect 0 (resolveNone (fetchOpcode s)) rfl
  | branch opcode cond rr => exact readByte_congr (branchInstr_mem opcode cond rr s) a
  | jump opcode m => rfl
  | call hhll =>
    simp only [stored, List.mem_cons, List.not_mem_nil, or_false, not_or] at hstored
    obtain ⟨h0, h1⟩ := hstored
    exact readByte_push16_ne _ (resolve (.absolute hhll) (fetchOpcode s)).2 h0 h1

/-- Settles O56: neither the instruction's shape nor its effect stores to the address. -/
theorem onlyTheStoredBytesChange : Obligations.OnlyTheStoredBytesChange := by
  intro i s t h a ha
  rw [shape_of_exec h]
  exact ExecShape.readByte_run (execShape i) (fun hm => ha (execShape_stored_subset i s hm))
    fun v _ hsp => readByte_effect i v hsp ha

end Sys2Proof.Machine
end

section
/-! SUPPORT. The opcode map, the decoder and the encoder agree (spec/30_encoding.md R65-R77): an opcode byte selects a shape, and a
shape with its operand bytes is an instruction. -/

namespace Sys2Proof

/-! ### The row of an instruction -/

/-- The operand bytes a shape takes, low byte first, and the instruction it makes of them (R65, R67). -/
inductive Shape.Builds : Shape → List Byte → Instr → Prop
  | alone (i : Instr) : Builds (.alone i) [] i
  | withByte (make : Byte → Instr) (b : Byte) : Builds (.withByte make) [b] (make b)
  | withWord (make : Word → Instr) (w : Word) : Builds (.withWord make) [lowByte w, highByte w] (make w)

/-- The opcode byte and the operand bytes make up the length (R65). -/
theorem Shape.Builds.length {shape : Shape} {operands : List Byte} {i : Instr} (h : shape.Builds operands i) :
    operands.length + 1 = shape.length := by
  cases h <;> rfl

theorem Shape.length_bounds (shape : Shape) : 1 ≤ shape.length ∧ shape.length ≤ 3 := by
  cases shape <;> simp [length]

/-- The mnemonic of a shape's instructions, read off the one whose operand is zero. -/
def Shape.mnemonic : Shape → Mnemonic
  | .alone i => i.mnemonic
  | .withByte make => (make 0).mnemonic
  | .withWord make => (make 0).mnemonic

/-- The instruction stands in the row of R71 with this opcode byte and shape, and these are its operand bytes. -/
structure Instr.InRow (i : Instr) (opcode : Byte) (shape : Shape) (operands : List Byte) : Prop where
  encode_eq : encode i = opcode :: operands
  opcodeMap_eq : opcodeMap opcode = some shape
  builds : shape.Builds operands i
  docNamed_eq : i.docNamed = docNamedOpcodes.contains opcode
  mnemonic_eq : i.mnemonic = shape.mnemonic

theorem exists_inRow (i : Instr) : ∃ opcode shape operands, i.InRow opcode shape operands := by
  cases i <;> exact ⟨_, _, _, rfl, rfl, by constructor, rfl, rfl⟩

/-- No two rows share an instruction: what a row builds is encoded by that row's opcode byte. The map is a table, so this
is checked byte by byte, for every operand at once. -/
theorem encode_of_builds {opcode : Byte} {shape : Shape} {operands : List Byte} {i : Instr}
    (hmap : opcodeMap opcode = some shape) (hi : shape.Builds operands i) : encode i = opcode :: operands := by
  have hrow : ∀ n < 256, opcodeMap (BitVec.ofNat 8 n) = some shape → encode i = BitVec.ofNat 8 n :: operands := by
    intro n hn hsome
    interval_cases n <;> cases hsome <;> cases hi <;> rfl
  simpa using hrow opcode.toNat opcode.isLt (by simpa using hmap)

/-! ### Admitted instructions -/

/-- Admitting an instruction is admitting its opcode byte (R77, R189). -/
theorem Instr.InRow.wellFormed_eq {i : Instr} {opcode : Byte} {shape : Shape} {operands : List Byte}
    (h : i.InRow opcode shape operands) (admitted : AdmittedOpcodes) : i.wellFormed admitted = admits admitted opcode := by
  cases admitted with
  | official151 => rfl
  | docNamed => exact h.docNamed_eq

theorem wellFormed_eq_admits {i : Instr} {opcode : Byte} {operands : List Byte} (h : encode i = opcode :: operands)
    (admitted : AdmittedOpcodes) : i.wellFormed admitted = admits admitted opcode := by
  obtain ⟨opcode', shape, operands', hrow⟩ := exists_inRow i
  obtain ⟨rfl, rfl⟩ := List.cons.inj (hrow.encode_eq.symm.trans h)
  exact hrow.wellFormed_eq admitted

theorem lookupOpcode_eq_some {admitted : AdmittedOpcodes} {opcode : Byte} {shape : Shape} :
    lookupOpcode admitted opcode = some shape ↔ admits admitted opcode = true ∧ opcodeMap opcode = some shape := by
  unfold lookupOpcode
  split <;> simp_all

theorem lookupOpcode_of_not_admits {admitted : AdmittedOpcodes} {opcode : Byte} (h : ¬ admits admitted opcode = true) :
    lookupOpcode admitted opcode = none := if_neg h

/-- The bytes with no row at all are the 105 of R72. -/
theorem lookupOpcode_official151_eq_none {opcode : Byte} :
    lookupOpcode .official151 opcode = none ↔ opcode ∈ unmappedBytes := by
  rw [← Option.isNone_iff_eq_none]
  revert opcode
  decide

/-- The bytes with a document-named row are the 20 of R77. -/
theorem lookupOpcode_docNamed_eq_none {opcode : Byte} :
    lookupOpcode .docNamed opcode = none ↔ opcode ∉ namedBytes := by
  rw [← Option.isNone_iff_eq_none]
  revert opcode
  decide

/-! ### What the decoder answers -/

theorem decode_unmapped {admitted : AdmittedOpcodes} {opcode : Byte} (h : lookupOpcode admitted opcode = none)
    (rest : List Byte) : decode admitted (opcode :: rest) = .error (.unmapped opcode) := by
  simp [decode, h]

theorem decode_of_builds {admitted : AdmittedOpcodes} {opcode : Byte} {shape : Shape} {operands : List Byte} {i : Instr}
    (hlookup : lookupOpcode admitted opcode = some shape) (hi : shape.Builds operands i) (rest : List Byte) :
    decode admitted (opcode :: operands ++ rest) = .ok i rest := by
  cases hi <;> simp [decode, hlookup]

/-- Two bytes after the opcode are always enough (R65). -/
theorem exists_decode_of_lookup {admitted : AdmittedOpcodes} {opcode : Byte} (h : lookupOpcode admitted opcode ≠ none)
    (b1 b2 : Byte) : ∃ i rest, decode admitted [opcode, b1, b2] = .ok i rest := by
  obtain ⟨shape, hshape⟩ := Option.ne_none_iff_exists'.mp h
  cases shape <;> simp [decode, hshape]

/-- The decoder answers an instruction only by its row. -/
theorem builds_of_decode {admitted : AdmittedOpcodes} {bytes rest : List Byte} {i : Instr}
    (h : decode admitted bytes = .ok i rest) : ∃ opcode shape operands,
      lookupOpcode admitted opcode = some shape ∧ shape.Builds operands i ∧ bytes = opcode :: operands ++ rest := by
  unfold decode at h
  split at h
  · cases h
  · next opcode _ =>
    split at h
    · cases h
    · next hlookup =>
      cases h
      exact ⟨opcode, _, _, hlookup, .alone i, rfl⟩
    · next make hlookup =>
      split at h
      · next b _ =>
        cases h
        exact ⟨opcode, _, _, hlookup, .withByte make b, rfl⟩
      · cases h
    · next make hlookup =>
      split at h
      · next lo hi _ =>
        cases h
        exact ⟨opcode, _, _, hlookup, .withWord make (joinBytes hi lo), by simp⟩
      · cases h

/-! ### The obligations -/

/-- Settles O3: the row of the instruction is looked up exactly when it is admitted. -/
theorem decodeUndoesEncode : Obligations.DecodeUndoesEncode := by
  intro admitted i rest
  obtain ⟨opcode, shape, operands, hrow⟩ := exists_inRow i
  rw [hrow.wellFormed_eq admitted, hrow.encode_eq]
  split
  · next hadmits => exact decode_of_builds (lookupOpcode_eq_some.mpr ⟨hadmits, hrow.opcodeMap_eq⟩) hrow.builds rest
  · next hadmits => exact ⟨opcode, operands, rfl, decode_unmapped (lookupOpcode_of_not_admits hadmits) _⟩

/-- Settles O4: the row the decoder used is the one the encoder uses. -/
theorem encodeUndoesDecode : Obligations.EncodeUndoesDecode := by
  intro admitted bytes rest i h
  obtain ⟨opcode, shape, operands, hlookup, hi, rfl⟩ := builds_of_decode h
  obtain ⟨hadmits, hmap⟩ := lookupOpcode_eq_some.mp hlookup
  have hencode : encode i = opcode :: operands := encode_of_builds hmap hi
  exact ⟨by rw [hencode], (wellFormed_eq_admits hencode admitted).trans hadmits⟩

/-- Settles O6: an instruction is admitted by its opcode byte, and the model's list is the one of R77. -/
theorem docNamedInstructionsAreTheTwentyRows : Obligations.DocNamedInstructionsAreTheTwentyRows := by
  intro i
  obtain ⟨opcode, shape, operands, hrow⟩ := exists_inRow i
  have hadmits : admits .docNamed opcode = true ↔ opcode ∈ namedBytes := List.contains_iff_mem
  rw [hrow.wellFormed_eq .docNamed, hrow.encode_eq, hadmits]
  constructor
  · intro hmem
    exact ⟨opcode, operands, rfl, hmem⟩
  · rintro ⟨_, _, ⟨⟩, hmem⟩
    exact hmem

/-- Settles O7: one opcode byte selects one shape, which has one length and one mnemonic. -/
theorem opcodeAloneFixesTheLength : Obligations.OpcodeAloneFixesTheLength := by
  intro i j hhead
  obtain ⟨opcode, shape, operands, hi⟩ := exists_inRow i
  obtain ⟨opcode', shape', operands', hj⟩ := exists_inRow j
  rw [hi.encode_eq, hj.encode_eq] at hhead ⊢
  obtain rfl : opcode = opcode' := Option.some.inj hhead
  obtain rfl : shape = shape' := Option.some.inj (hi.opcodeMap_eq.symm.trans hj.opcodeMap_eq)
  obtain ⟨hlow, hhigh⟩ := shape.length_bounds
  simp only [List.length_cons, hi.builds.length, hj.builds.length]
  exact ⟨trivial, hlow, hhigh, hi.mnemonic_eq.trans hj.mnemonic_eq.symm⟩

/-- Settles O2: eight fixed words, decoded. -/
theorem wordsOfTheSpecDecode : Obligations.WordsOfTheSpecDecode := by
  unfold Obligations.WordsOfTheSpecDecode
  decide

end Sys2Proof

namespace Sys2Proof.Machine

/-- Fetching a byte with no admitted row faults with that byte and its address (R191, D16). -/
theorem step_of_lookup_none {s : State} (hpowered : s.powered = true)
    (h : lookupOpcode s.params.admitted (readByte (serviceInterrupts s) (serviceInterrupts s).pc) = none) :
    step s = .fault (.unmappedOpcode (readByte (serviceInterrupts s) (serviceInterrupts s).pc) (serviceInterrupts s).pc
      (fetchOpcode (serviceInterrupts s))) := by
  obtain ⟨-, -, -, -, hparams, -⟩ := serviceInterrupts_requests s
  have hdecode := decode_unmapped h [readByte (serviceInterrupts s) ((serviceInterrupts s).pc + 1),
    readByte (serviceInterrupts s) ((serviceInterrupts s).pc + 2)]
  simp only [step, runStep, hpowered, if_true, fetchDecodeExecute, fetchBytes, hparams, hdecode]

/-- Settles O5: the bytes that are not looked up, the decoder's answer for them, and the fault of a step that fetches one. -/
theorem unmappedBytesAreRejected : Obligations.UnmappedBytesAreRejected := by
  refine ⟨fun opcode b1 b2 => ⟨?_, ?_⟩, fun s hpowered hbyte => ⟨_, step_of_lookup_none hpowered ?_⟩⟩
  · split
    · next hmem => exact decode_unmapped (lookupOpcode_official151_eq_none.mpr hmem) _
    · next hmem => exact exists_decode_of_lookup (mt lookupOpcode_official151_eq_none.mp hmem) b1 b2
  · split
    · next hmem => exact exists_decode_of_lookup (fun h => lookupOpcode_docNamed_eq_none.mp h hmem) b1 b2
    · next hmem => exact decode_unmapped (lookupOpcode_docNamed_eq_none.mpr hmem) _
  · cases hadmitted : s.params.admitted with
    | official151 => exact lookupOpcode_official151_eq_none.mpr (by rwa [hadmitted] at hbyte)
    | docNamed => exact lookupOpcode_docNamed_eq_none.mpr (by rwa [hadmitted] at hbyte)

end Sys2Proof.Machine
end

section
/-! SUPPORT. The addressing modes in numbers (spec/40_addressing.md R80-R97): an address as a sum modulo 256 or 2^16, a page
crossing as two addresses whose quotients by 256 differ. -/

namespace Sys2Proof.Machine

/-! ### Addresses as numbers -/

theorem zext16_toNat (b : Byte) : (zext16 b).toNat = b.toNat :=
  BitVec.toNat_setWidth_of_le (by decide)

/-- An index added within page zero wraps within it (R87, R88, R94). -/
theorem zext16_add_toNat (b index : Byte) : (zext16 (b + index)).toNat = (b.toNat + index.toNat) % 256 := by
  rw [zext16_toNat, BitVec.toNat_add]

/-- An index added to a 16-bit base wraps in the address space (R91, R92, R95). -/
theorem add_zext16_toNat (base : Word) (index : Byte) :
    (base + zext16 index).toNat = (base.toNat + index.toNat) % 65536 := by
  rw [BitVec.toNat_add, zext16_toNat]

/-- A branch offset is signed (R89). -/
theorem add_sext16_toNat (base : Word) (offset : Byte) :
    (base + sext16 offset).toNat = (((base.toNat : Int) + offset.toInt) % 65536).toNat := by
  have hoffset : (sext16 offset).toNat = (offset.toInt % 65536).toNat := BitVec.toNat_ofInt offset.toInt
  rw [BitVec.toNat_add, hoffset]
  omega

/-- `Crossed` as R82's test on numbers. -/
theorem crossed_eq_decide (a b : Word) : crossed a b = decide (a.toNat / 256 ≠ b.toNat / 256) := by
  simp only [crossed, ← highByte_toNat, ne_eq, BitVec.toNat_inj, bne, decide_not]
  rfl

/-! ### Pointers in memory -/

/-- A word read as two bytes, low byte first (R51). -/
theorem read16_toNat (s : State) (addr : Word) :
    (read16 s addr).toNat =
      (readByte s addr).toNat + 256 * (readByte s (BitVec.ofNat 16 ((addr.toNat + 1) % 65536))).toNat := by
  have hnext : addr + 1 = BitVec.ofNat 16 ((addr.toNat + 1) % 65536) := BitVec.eq_of_toNat_eq (by simp)
  rw [read16, joinBytes_toNat, hnext]
  omega

/-- Masking with 0xFF00 clears the low byte (R52). -/
theorem and_FF00_eq_joinBytes (w : Word) : w &&& 0xFF00#16 = joinBytes (highByte w) 0x00#8 := by
  calc w &&& 0xFF00#16
      = joinBytes (highByte w) (lowByte w) &&& joinBytes 0xFF#8 0x00#8 := by rw [joinBytes_high_low]; rfl
    _ = joinBytes (highByte w &&& 0xFF#8) (lowByte w &&& 0x00#8) := BitVec.and_append
    _ = joinBytes (highByte w) 0x00#8 := by
      rw [show 0xFF#8 = BitVec.allOnes 8 from rfl, BitVec.and_allOnes, BitVec.and_zero]

/-- Where the pointer-wrap defect takes the high byte from (R52, R93). -/
theorem readBuggy16_eq (s : State) (ptr : Word) :
    readBuggy16 s ptr =
      joinBytes (readByte s (if ptr.toNat % 256 = 255 then BitVec.ofNat 16 (ptr.toNat - 255) else ptr + 1))
        (readByte s ptr) := by
  have hlow : lowByte ptr = 0xFF#8 ↔ ptr.toNat % 256 = 255 := by
    rw [← BitVec.toNat_inj, lowByte_toNat]
    rfl
  simp only [readBuggy16, hlow]
  split
  · next hlast =>
    have hstart : ptr &&& 0xFF00#16 = BitVec.ofNat 16 (ptr.toNat - 255) := by
      apply BitVec.eq_of_toNat_eq
      simp only [and_FF00_eq_joinBytes, joinBytes_toNat, highByte_toNat, BitVec.toNat_ofNat]
      omega
    rw [hstart]
  · rfl

/-- Both bytes of a zero-page pointer, for both values of ZP_PTR_WRAP (R94, R95, D10). -/
theorem zeroPagePointer_toNat (s : State) (p : Byte) :
    (zeroPagePointer s p).toNat =
      (readByte s (BitVec.ofNat 16 p.toNat)).toNat +
        256 * (readByte s
          (BitVec.ofNat 16 (if s.params.zpPtrWrap then (p.toNat + 1) % 256 else p.toNat + 1))).toNat := by
  have hfirst : zext16 p = BitVec.ofNat 16 p.toNat := (BitVec.ofNat_toNat 16 p).symm
  have hsecond : (if s.params.zpPtrWrap then zext16 (p + 1) else zext16 p + 1) =
      BitVec.ofNat 16 (if s.params.zpPtrWrap then (p.toNat + 1) % 256 else p.toNat + 1) := by
    split
    · exact (BitVec.ofNat_toNat 16 (p + 1)).symm
    · rw [hfirst, BitVec.ofNat_add]
      rfl
  simp only [zeroPagePointer, joinBytes_toNat, hsecond]
  rw [hfirst]
  omega

/-! ### Resolution -/

/-- A mode without a base clears `page_crossed` (R86-R88, R90, R93, R94, D27). -/
theorem resolve_of_no_base {m : AddrMode} {s : State} {ea : Nat} (hbase : baseAddr m s = none)
    (hea : (effectiveAddr m s).toNat = ea) :
    resolve m s =
      (BitVec.ofNat 16 ea, { s with pc := s.pc + BitVec.ofNat 16 m.operandBytes, pageCrossed := false }) := by
  subst hea
  simp only [resolve_eq, addrCrossed, hbase, BitVec.ofNat_toNat, BitVec.setWidth_eq]

/-- A mode with a base reports whether its address is in another page (R89, R91, R92, R95). -/
theorem resolve_of_base {m : AddrMode} {s : State} {baseWord : Word} {base ea : Nat}
    (hword : baseAddr m s = some baseWord) (hbase : baseWord.toNat = base) (hea : (effectiveAddr m s).toNat = ea) :
    resolve m s =
      (BitVec.ofNat 16 ea,
        { s with
          pc := s.pc + BitVec.ofNat 16 m.operandBytes
          pageCrossed := decide (base / 256 ≠ ea / 256) }) := by
  subst hbase hea
  simp only [resolve_eq, addrCrossed, hword, crossed_eq_decide, BitVec.ofNat_toNat, BitVec.setWidth_eq]

theorem loadSource_memory (m : AddrMode) (s : State) :
    loadSource (.memory m) s = (readByte s (resolve m s).1, (resolve m s).2) := by
  have hread : readByte (resolve m s).2 (resolve m s).1 = readByte s (resolve m s).1 := readByte_congr rfl _
  simp only [loadSource, hread]

/-! ### The obligations -/

/-- Settles O8: none of the three modes has a base, and the sum is one of bytes. -/
theorem zeroPageModesWrapInPageZero : Obligations.ZeroPageModesWrapInPageZero := fun zz s =>
  ⟨resolve_of_no_base rfl (zext16_toNat zz), resolve_of_no_base rfl (zext16_add_toNat zz s.x),
    resolve_of_no_base rfl (zext16_add_toNat zz s.y)⟩

/-- Settles O9: absolute has no base, and the base of the indexed modes is the operand word. -/
theorem absoluteModesTrackPageCrossing : Obligations.AbsoluteModesTrackPageCrossing := fun hhll s =>
  ⟨resolve_eq (.absolute hhll) s, resolve_of_base rfl rfl (add_zext16_toNat hhll s.x),
    resolve_of_base rfl rfl (add_zext16_toNat hhll s.y)⟩

/-- Settles O10: the base is PC after the operand byte, where PC is left. -/
theorem relativeTargetsFromTheNextInstruction : Obligations.RelativeTargetsFromTheNextInstruction := by
  intro rr s base target
  have hbase : (s.pc + 1).toNat = base := BitVec.toNat_add s.pc 1
  have htarget : (s.pc + 1 + sext16 rr).toNat = target := by
    rw [add_sext16_toNat, hbase]
  have hpc : s.pc + 1 = BitVec.ofNat 16 base := by
    rw [← hbase, BitVec.ofNat_toNat, BitVec.setWidth_eq]
  rw [← hpc]
  exact resolve_of_base rfl hbase htarget

/-- Settles O11: the ordinary read, and the defective one that the indirect mode uses. -/
theorem indirectReadsWithTheWrapDefect : Obligations.IndirectReadsWithTheWrapDefect := by
  intro ptr s
  refine ⟨read16_toNat s ptr, ?_⟩
  rw [← readBuggy16_eq]
  exact resolve_eq (.indirect ptr) s

/-- Settles O12: both modes read `zeroPagePointer`, (Indirect,X) as its address, (Indirect),Y as its base. -/
theorem zeroPagePointerModes : Obligations.ZeroPagePointerModes := by
  intro zz s pointer base ea
  have hpointer : ∀ p : Byte, (zeroPagePointer s p).toNat = pointer p.toNat := zeroPagePointer_toNat s
  have hx : (zeroPagePointer s (zz + s.x)).toNat = pointer ((zz.toNat + s.x.toNat) % 256) := by
    rw [hpointer, BitVec.toNat_add]
  have hy : (zeroPagePointer s zz + zext16 s.y).toNat = ea := by
    rw [add_zext16_toNat, hpointer]
  exact ⟨resolve_of_no_base rfl hx, resolve_of_base rfl (hpointer zz) hy⟩

/-- Settles O60: loading from memory reads at the resolved address; `atOperand` is the state after the fetch. -/
theorem loadGivesTheResolvedOperand : Obligations.LoadGivesTheResolvedOperand := by
  intro s atOperand
  have hfetch : fetchOpcode s = atOperand := rfl
  refine ⟨fun nn => ⟨rfl, rfl, rfl⟩, fun m => ⟨loadSource_memory m s, ?_, ?_, ?_, ?_⟩⟩
  · rw [operandOf, loadSource_memory, hfetch]
    exact readByte_congr rfl _
  · rw [sourceCrossed, loadSource_memory, hfetch]
  · rw [placeOf, hfetch, resolve_eq]
  · rw [hfetch, resolve_eq]

end Sys2Proof.Machine
end

section
/-! SUPPORT. The stack in numbers (spec/41_stack.md R100-R104): the slots are 256 + SP, and a pop undoes the push before it. -/

namespace Sys2Proof.Machine

/-! ### Slots -/

/-- Every slot is in page 0x01 (R104). -/
theorem ne_stackAddr_of_outside_page {a : Word} (h : a.toNat < 256 ∨ 511 < a.toNat) (sp : Byte) : a ≠ stackAddr sp := by
  rintro rfl
  rw [stackAddr_toNat] at h
  omega

theorem stackAddr_eq_ofNat (sp : Byte) : stackAddr sp = BitVec.ofNat 16 (256 + sp.toNat) := by
  rw [← stackAddr_toNat, BitVec.ofNat_toNat, BitVec.setWidth_eq]

/-! ### Pop after push -/

/-- The slot popped is the one pushed to: SP - 1 + 1 is SP, modulo 256 too (R100, R101). -/
theorem pop_push (v : Byte) (s : State) : pop (push v s) = (v, { s with mem := (push v s).mem }) := by
  have hsp : (push v s).sp + 1 = s.sp := BitVec.sub_add_cancel s.sp 1
  rw [pop_eq, hsp, readByte_push_same]
  rfl

/-- The low byte, pushed last, is popped first (R102, R103). -/
theorem pop16_push16 (w : Word) (s : State) : pop16 (push16 w s) = (w, { s with mem := (push16 w s).mem }) := by
  have hsp : (push16 w s).sp = s.sp - 2 := by rw [push16_eq]
  have hlow : (push16 w s).sp + 1 = s.sp - 1 := by rw [hsp]; bv_omega
  have hhigh : (push16 w s).sp + 2 = s.sp := by rw [hsp]; exact BitVec.sub_add_cancel s.sp 2
  rw [pop16_eq, hlow, hhigh, readByte_push16_low, readByte_push16_high, joinBytes_high_low]
  rfl

/-! ### The obligation -/

/-- Settles O39: the slot written, the frame around it, and both round trips. -/
theorem popUndoesPushWithinTheStackPage : Obligations.PopUndoesPushWithinTheStackPage := by
  intro v w s
  have hpushedSP : (push v s).sp.toNat = (s.sp.toNat + 255) % 256 := by
    rw [push_eq, BitVec.toNat_sub, Nat.add_comm]
    rfl
  have hpushed : readByte (push v s) (BitVec.ofNat 16 (256 + s.sp.toNat)) = v := by
    rw [← stackAddr_eq_ofNat, readByte_push_same]
  have hother : ∀ a : Word, a.toNat ≠ 256 + s.sp.toNat → readByte (push v s) a = readByte s a := fun a ha =>
    readByte_push_ne v s fun hslot => ha (by rw [hslot, stackAddr_toNat])
  have hpop : pop s = (readByte s (BitVec.ofNat 16 (256 + (s.sp.toNat + 1) % 256)), { s with sp := s.sp + 1 }) := by
    rw [pop_eq, stackAddr_eq_ofNat, BitVec.toNat_add]
    rfl
  have houtside : ∀ a : Word, a.toNat < 256 ∨ 511 < a.toNat → readByte (push16 w s) a = readByte s a := fun a ha =>
    readByte_push16_ne w s (ne_stackAddr_of_outside_page ha _) (ne_stackAddr_of_outside_page ha _)
  exact ⟨hpushedSP, push_eq v s, hpushed, hother, hpop, readByte_push16_high w s, readByte_push16_low w s,
    pop_push v s, pop16_push16 w s, houtside⟩

end Sys2Proof.Machine
end

section
/-! SUPPORT. From a row of an encoding table to what its instruction does: a row that reads one operand, one that replaces a byte of
memory, and a one-byte instruction. The bodies are left open, so the rules of 42_alu.md, 43_shift_rotate.md and
44_load_store_transfer.md can all use these. -/

namespace Sys2Proof.Machine

/-- The fetch leaves PC at the first operand byte (R188). -/
theorem fetchOpcode_pc (s : State) : (fetchOpcode s).pc = s.pc + 1 := rfl

/-! ### Rows that read one operand -/

/-- The row's instruction is `readInstr` of `body` on the row's operand, and the row's bytes and base cycles are the model's. -/
structure Row.Reads (r : Row Source) (body : Byte → State → State) : Prop where
  encode_eq : encode r.instr = r.bytes
  shape_eq : ∃ opcode, execShape r.instr = .read opcode body r.operand ∧ baseCycles opcode = r.base
  length_eq : 1 + r.operand.operandBytes = r.bytes.length

/-- The state the body runs in: `readDone` before the cycles are counted. -/
theorem Row.Reads.loadSource_eq {r : Row Source} {body : Byte → State → State} (h : r.Reads body) (s : State) :
    (loadSource r.operand (fetchOpcode s)).2 = { readDone r s with cycles := s.cycles } := by
  rw [loadSource_state, fetchOpcode_pc, pc_past, h.length_eq]
  rfl

/-- A row's two claims: its bytes, and the state `t` it leaves, which is its body's on the operand with the cycles added. -/
theorem Row.Reads.encode_and_exec {r : Row Source} {body : Byte → State → State} (h : r.Reads body) {s t : State}
    (hbody : (body (operandOf r.operand s) { readDone r s with cycles := s.cycles }).addCycles
      (r.base + (sourceCrossed r.operand s).toNat) = t) :
    encode r.instr = r.bytes ∧ exec r.instr s = .next t := by
  obtain ⟨opcode, hshape, hbase⟩ := h.shape_eq
  refine ⟨h.encode_eq, ?_⟩
  rw [exec_eq_shape, hshape, ExecShape.run, readInstr_eq, h.loadSource_eq, hbase]
  exact congrArg _ hbody

/-! ### Rows that replace a byte of memory -/

/-- The row's instruction is `modifyInstr` of `op` on the byte at the row's operand, and the row's bytes and base cycles are the
model's. -/
structure Row.Modifies (r : Row AddrMode) (op : Byte → Flags → Byte × Flags) : Prop where
  encode_eq : encode r.instr = r.bytes
  shape_eq : ∃ opcode, execShape r.instr = .modify opcode op (.memory r.operand) ∧ baseCycles opcode = r.base
  length_eq : 1 + r.operand.operandBytes = r.bytes.length

/-- The state after the resolution: `placeDone` before the cycles are counted. -/
theorem Row.Modifies.resolve_eq {r : Row AddrMode} {op : Byte → Flags → Byte × Flags} (h : r.Modifies op) (s : State) :
    resolve r.operand (fetchOpcode s) = (placeOf r.operand s, { placeDone r s with cycles := s.cycles }) := by
  rw [Machine.resolve_eq, fetchOpcode_pc, pc_past, h.length_eq]
  rfl

/-- A row's two claims: its bytes, and `op`'s byte and flags from the byte at the effective address. -/
theorem Row.Modifies.encode_and_exec {r : Row AddrMode} {op : Byte → Flags → Byte × Flags} (h : r.Modifies op)
    {s : State} {new : Byte} {flags : Flags} (hop : op (readByte s (placeOf r.operand s)) s.flags = (new, flags)) :
    encode r.instr = r.bytes ∧
      exec r.instr s = .next
        { placeDone r s with mem := (writeByte s (placeOf r.operand s) new).mem, flags := flags } := by
  have hread : readByte { placeDone r s with cycles := s.cycles } (placeOf r.operand s) =
      readByte s (placeOf r.operand s) := readByte_congr rfl _
  have hflags : ({ placeDone r s with cycles := s.cycles } : State).flags = s.flags := rfl
  obtain ⟨opcode, hshape, hbase⟩ := h.shape_eq
  refine ⟨h.encode_eq, ?_⟩
  simp only [exec_eq_shape, hshape, ExecShape.run, modifyInstr, h.resolve_eq, hread, hflags, hop, hbase]
  rfl

/-! ### One-byte instructions -/

/-- Implied and accumulator mode consume no operand byte (R83, R84). -/
theorem resolveNone_fetchOpcode (s : State) :
    resolveNone (fetchOpcode s) = { s with pc := s.pc + 1, pageCrossed := false } := by
  have hpc : (fetchOpcode s).pc + 0 = s.pc + 1 := BitVec.add_zero _
  rw [resolveNone_eq, hpc]
  rfl

theorem exec_of_implied {i : Instr} {opcode : Byte} {body : State → State} (h : execShape i = .implied opcode body)
    (s : State) :
    exec i s = .next ((body { s with pc := s.pc + 1, pageCrossed := false }).addCycles (baseCycles opcode)) := by
  rw [exec_eq_shape, h, ExecShape.run, impliedInstr, resolveNone_fetchOpcode]

end Sys2Proof.Machine
end

section
/-! SUPPORT. The ALU in numbers (spec/42_alu.md R106-R120): each body's whole effect, its flags as conditions on sums and differences. -/

namespace Sys2Proof.Machine

/-! ### N and Z of a result (R29) -/

theorem Flags.setNZ_eq (f : Flags) (v : Byte) : f.setNZ v = { f with z := decide (v = 0), n := v.msb } := by
  rw [BitVec.msb_eq_getLsbD_last]
  rfl

theorem msb_eq_decide_le (v : Byte) : v.msb = decide (128 ≤ v.toNat) := BitVec.msb_eq_decide v

theorem ofNat_eq_zero_iff (k : Nat) : BitVec.ofNat 8 k = 0 ↔ k % 256 = 0 := by
  rw [← BitVec.toNat_inj, BitVec.toNat_ofNat]
  rfl

/-- N and Z of a number stored modulo 256. -/
theorem Flags.setNZ_ofNat (f : Flags) (k : Nat) :
    f.setNZ (BitVec.ofNat 8 k) = { f with z := decide (k % 256 = 0), n := decide (128 ≤ k % 256) } := by
  simp only [setNZ_eq, ofNat_eq_zero_iff, msb_eq_decide_le, BitVec.toNat_ofNat, Nat.reducePow]

/-! ### Addition and subtraction (R106, R107) -/

/-- Masking with 0x80 leaves the sign bit. -/
theorem and_80_bne_zero (v : Byte) : ((v &&& 0x80#8) != 0x00#8) = v.msb := by
  revert v
  decide

/-- V's mask expression (90_conflicts.md C2): the operands have one sign and the result the other. -/
theorem overflow_eq_decide (a m res : Byte) :
    ((((a ^^^ res) &&& (m ^^^ res)) &&& 0x80#8) != 0x00#8) =
      decide ((128 ≤ a.toNat ↔ 128 ≤ m.toNat) ∧ ¬(128 ≤ a.toNat ↔ 128 ≤ res.toNat)) := by
  have hsigns : ∀ x y z : Bool, ((x ^^ z) && (y ^^ z)) = decide (x = y ∧ ¬x = z) := by decide
  rw [and_80_bne_zero, BitVec.msb_and, BitVec.msb_xor, BitVec.msb_xor, hsigns]
  simp only [msb_eq_decide_le, decide_eq_decide]

/-- A and the flags after ADC of `m` (R106). -/
theorem addToA_eq (m : Byte) (s : State) :
    addToA m s =
      let sum := s.a.toNat + m.toNat + s.flags.c.toNat
      { s with
        a := BitVec.ofNat 8 sum
        flags := { s.flags with
          c := decide (255 < sum)
          z := decide (sum % 256 = 0)
          n := decide (128 ≤ sum % 256)
          v := decide ((128 ≤ s.a.toNat ↔ 128 ≤ m.toNat) ∧ ¬(128 ≤ s.a.toNat ↔ 128 ≤ sum % 256)) } } := by
  simp only [addToA, addFlags, addResult, Flags.setNZ_ofNat, overflow_eq_decide, BitVec.toNat_ofNat, Nat.reducePow]
  rfl

/-- A and the flags after SBC of `m` (R107): adding 255 - M + C is subtracting M + (1 - C), modulo 256. -/
theorem subFromA_eq (m : Byte) (s : State) :
    subFromA m s =
      let borrow := 1 - s.flags.c.toNat
      let res := (256 + s.a.toNat - m.toNat + 256 - borrow) % 256
      { s with
        a := BitVec.ofNat 8 res
        flags := { s.flags with
          c := decide (m.toNat + borrow ≤ s.a.toNat)
          z := decide (res = 0)
          n := decide (128 ≤ res)
          v := decide (¬(128 ≤ s.a.toNat ↔ 128 ≤ m.toNat) ∧ ¬(128 ≤ s.a.toNat ↔ 128 ≤ res)) } } := by
  extract_lets borrow res
  have hm := m.isLt
  have hc := s.flags.c.toNat_le
  have hnot : (~~~m).toNat = 255 - m.toNat := BitVec.toNat_not
  have hres : (s.a.toNat + (255 - m.toNat) + s.flags.c.toNat) % 256 = res := by omega
  have hstored : BitVec.ofNat 8 (s.a.toNat + (255 - m.toNat) + s.flags.c.toNat) = BitVec.ofNat 8 res := by
    rw [← hres]
    exact BitVec.eq_of_toNat_eq (by simp)
  have hcarry : 255 < s.a.toNat + (255 - m.toNat) + s.flags.c.toNat ↔ m.toNat + borrow ≤ s.a.toNat := by omega
  have hsign : (128 ≤ s.a.toNat ↔ 128 ≤ 255 - m.toNat) ↔ ¬(128 ≤ s.a.toNat ↔ 128 ≤ m.toNat) := by omega
  simp only [subFromA, addToA_eq, hnot, hres, hstored, hcarry, hsign]
  rfl

/-! ### Results and comparisons -/

/-- A result in A (R108-R110). -/
theorem resultToA_eq (v : Byte) (s : State) :
    resultToA v s = { s with a := v, flags := { s.flags with z := decide (v = 0), n := v.msb } } := by
  rw [resultToA, Flags.setNZ_eq]
  rfl

/-- A result in X (R117, R119). -/
theorem resultToX_eq (v : Byte) (s : State) :
    resultToX v s = { s with x := v, flags := { s.flags with z := decide (v = 0), n := v.msb } } := by
  rw [resultToX, Flags.setNZ_eq]
  rfl

/-- A result in Y (R118, R120). -/
theorem resultToY_eq (v : Byte) (s : State) :
    resultToY v s = { s with y := v, flags := { s.flags with z := decide (v = 0), n := v.msb } } := by
  rw [resultToY, Flags.setNZ_eq]
  rfl

/-- C, Z and N of a comparison, N from the difference modulo 256 (R111). -/
theorem compareFlags_eq (r m : Byte) (f : Flags) :
    compareFlags r m f = { f with
      c := decide (m.toNat ≤ r.toNat)
      z := decide (r = m)
      n := decide (128 ≤ (256 + r.toNat - m.toNat) % 256) } := by
  have hz : r - m = 0 ↔ r = m := sub_eq_zero
  have hn : (r - m).toNat = (256 + r.toNat - m.toNat) % 256 := by bv_omega
  simp only [compareFlags, Flags.setNZ_eq, msb_eq_decide_le, hz, hn]
  rfl

/-! ### The rows of each table -/

theorem reads_of_mem_adc (b : Byte) (w : Word) : ∀ r ∈ Rows.adc b w, r.Reads addToA := by
  intro r hr
  fin_cases hr <;> exact ⟨rfl, ⟨_, rfl, rfl⟩, rfl⟩

theorem reads_of_mem_sbc (b : Byte) (w : Word) : ∀ r ∈ Rows.sbc b w, r.Reads subFromA := by
  intro r hr
  fin_cases hr <;> exact ⟨rfl, ⟨_, rfl, rfl⟩, rfl⟩

theorem reads_of_mem_and (b : Byte) (w : Word) : ∀ r ∈ Rows.and b w, r.Reads andWithA := by
  intro r hr
  fin_cases hr <;> exact ⟨rfl, ⟨_, rfl, rfl⟩, rfl⟩

theorem reads_of_mem_ora (b : Byte) (w : Word) : ∀ r ∈ Rows.ora b w, r.Reads orWithA := by
  intro r hr
  fin_cases hr <;> exact ⟨rfl, ⟨_, rfl, rfl⟩, rfl⟩

theorem reads_of_mem_eor (b : Byte) (w : Word) : ∀ r ∈ Rows.eor b w, r.Reads xorWithA := by
  intro r hr
  fin_cases hr <;> exact ⟨rfl, ⟨_, rfl, rfl⟩, rfl⟩

theorem reads_of_mem_cmp (b : Byte) (w : Word) : ∀ r ∈ Rows.cmp b w, r.Reads compareA := by
  intro r hr
  fin_cases hr <;> exact ⟨rfl, ⟨_, rfl, rfl⟩, rfl⟩

theorem reads_of_mem_cpx (b : Byte) (w : Word) : ∀ r ∈ Rows.cpx b w, r.Reads compareX := by
  intro r hr
  fin_cases hr <;> exact ⟨rfl, ⟨_, rfl, rfl⟩, rfl⟩

theorem reads_of_mem_cpy (b : Byte) (w : Word) : ∀ r ∈ Rows.cpy b w, r.Reads compareY := by
  intro r hr
  fin_cases hr <;> exact ⟨rfl, ⟨_, rfl, rfl⟩, rfl⟩

theorem reads_of_mem_bit (b : Byte) (w : Word) : ∀ r ∈ Rows.bit b w, r.Reads testBits := by
  intro r hr
  fin_cases hr <;> exact ⟨rfl, ⟨_, rfl, rfl⟩, rfl⟩

theorem modifies_of_mem_inc (b : Byte) (w : Word) : ∀ r ∈ Rows.inc b w, r.Modifies incByte := by
  intro r hr
  fin_cases hr <;> exact ⟨rfl, ⟨_, rfl, rfl⟩, rfl⟩

theorem modifies_of_mem_dec (b : Byte) (w : Word) : ∀ r ∈ Rows.dec b w, r.Modifies decByte := by
  intro r hr
  fin_cases hr <;> exact ⟨rfl, ⟨_, rfl, rfl⟩, rfl⟩

/-! ### The obligations -/

/-- Settles O13: every row runs `addToA`. -/
theorem adcAddsMemoryAndCarry : Obligations.AdcAddsMemoryAndCarry := fun b w s r hr =>
  (reads_of_mem_adc b w r hr).encode_and_exec (by rw [addToA_eq]; rfl)

/-- Settles O14: every row runs `subFromA`. -/
theorem sbcSubtractsMemoryAndBorrow : Obligations.SbcSubtractsMemoryAndBorrow := fun b w s r hr =>
  (reads_of_mem_sbc b w r hr).encode_and_exec (by rw [subFromA_eq]; rfl)

/-- Settles O16: the three bodies compare different registers by the same flags. -/
theorem comparesSetCarryOnGreaterOrEqual : Obligations.ComparesSetCarryOnGreaterOrEqual := fun b w s =>
  ⟨fun r hr => (reads_of_mem_cmp b w r hr).encode_and_exec (by rw [compareA, compareFlags_eq]; rfl),
    fun r hr => (reads_of_mem_cpx b w r hr).encode_and_exec (by rw [compareX, compareFlags_eq]; rfl),
    fun r hr => (reads_of_mem_cpy b w r hr).encode_and_exec (by rw [compareY, compareFlags_eq]; rfl)⟩

/-- Settles O15: the three bodies store different results in A. -/
theorem logicInstructionsWriteAandNZ : Obligations.LogicInstructionsWriteAandNZ := fun b w s =>
  ⟨fun r hr => (reads_of_mem_and b w r hr).encode_and_exec (by rw [andWithA, resultToA_eq]; rfl),
    fun r hr => (reads_of_mem_ora b w r hr).encode_and_exec (by rw [orWithA, resultToA_eq]; rfl),
    fun r hr => (reads_of_mem_eor b w r hr).encode_and_exec (by rw [xorWithA, resultToA_eq]; rfl)⟩

/-- Settles O17: `bitFlags` is the claim's flags as written. -/
theorem bitTestsMemoryAgainstA : Obligations.BitTestsMemoryAgainstA := fun b w _ r hr =>
  (reads_of_mem_bit b w r hr).encode_and_exec rfl

/-- Settles O18: the byte and its N and Z, C and V as they were. -/
theorem incAndDecWriteTheByteBack : Obligations.IncAndDecWriteTheByteBack := fun b w _ =>
  ⟨fun r hr => (modifies_of_mem_inc b w r hr).encode_and_exec (by rw [incByte, Flags.setNZ_eq]),
    fun r hr => (modifies_of_mem_dec b w r hr).encode_and_exec (by rw [decByte, Flags.setNZ_eq])⟩

/-- Settles O19: the four are implied, and a result goes to X or Y. -/
theorem indexIncrementsAndDecrementsWrap : Obligations.IndexIncrementsAndDecrementsWrap := by
  intro s
  refine ⟨⟨rfl, ?_⟩, ⟨rfl, ?_⟩, ⟨rfl, ?_⟩, rfl, ?_⟩
  · rw [exec_of_implied rfl, resultToX_eq]
    rfl
  · rw [exec_of_implied rfl, resultToY_eq]
    rfl
  · rw [exec_of_implied rfl, resultToX_eq]
    rfl
  · rw [exec_of_implied rfl, resultToY_eq]
    rfl

end Sys2Proof.Machine
end

section
/-! SUPPORT. The shifts and rotates in numbers and in bits (spec/43_shift_rotate.md R125-R129). -/

namespace Sys2Proof.Machine

/-! ### Results and carries in numbers (R126-R129) -/

theorem getLsbD_7_eq_decide_le (v : Byte) : v.getLsbD 7 = decide (128 ≤ v.toNat) := by
  rw [← msb_eq_decide_le, BitVec.msb_eq_getLsbD_last]

theorem getLsbD_0_eq_decide_odd (v : Byte) : v.getLsbD 0 = decide (v.toNat % 2 = 1) := by
  rw [BitVec.getLsbD, Nat.testBit_zero]

theorem shiftLeft_one_eq_ofNat (v : Byte) : v <<< 1 = BitVec.ofNat 8 (v.toNat * 2) := by
  rw [BitVec.shiftLeft_eq_mul_twoPow]
  bv_omega

theorem shiftRight_one_eq_ofNat (v : Byte) : v >>> 1 = BitVec.ofNat 8 (v.toNat / 2) := by
  have hlt : v.toNat / 2 < 2 ^ 8 := (Nat.div_le_self _ _).trans_lt v.isLt
  rw [← BitVec.toNat_inj, BitVec.toNat_ushiftRight, BitVec.toNat_ofNat, Nat.mod_eq_of_lt hlt, Nat.shiftRight_one]

theorem shiftAsl_eq (v : Byte) (c : Bool) :
    shiftAsl v c = (BitVec.ofNat 8 (v.toNat * 2), decide (128 ≤ v.toNat)) := by
  rw [shiftAsl, getLsbD_7_eq_decide_le, shiftLeft_one_eq_ofNat]

theorem shiftLsr_eq (v : Byte) (c : Bool) :
    shiftLsr v c = (BitVec.ofNat 8 (v.toNat / 2), decide (v.toNat % 2 = 1)) := by
  rw [shiftLsr, getLsbD_0_eq_decide_odd, shiftRight_one_eq_ofNat]

/-- Setting a clear bit adds its weight. -/
theorem or_twoPow_eq_add {v : Byte} {k : Nat} (h : v.getLsbD k = false) :
    v ||| BitVec.twoPow 8 k = v + BitVec.twoPow 8 k := by
  have hdisjoint : v &&& BitVec.twoPow 8 k = 0#8 := by simp [BitVec.and_twoPow, h]
  exact (BitVec.add_eq_or_of_and_eq_zero _ _ hdisjoint).symm

/-- The old carry enters bit 0, which the shift left clear. -/
theorem shiftRol_eq (v : Byte) (c : Bool) :
    shiftRol v c = (BitVec.ofNat 8 (v.toNat * 2 + c.toNat), decide (128 ≤ v.toNat)) := by
  rw [shiftRol, getLsbD_7_eq_decide_le, BitVec.ofNat_add, ← shiftLeft_one_eq_ofNat]
  cases c with
  | false => simp
  | true => exact congrArg (·, _) (or_twoPow_eq_add (k := 0) (by simp))

/-- The old carry enters bit 7, which the shift left clear. -/
theorem shiftRor_eq (v : Byte) (c : Bool) :
    shiftRor v c = (BitVec.ofNat 8 (v.toNat / 2 + 128 * c.toNat), decide (v.toNat % 2 = 1)) := by
  rw [shiftRor, getLsbD_0_eq_decide_odd, BitVec.ofNat_add, ← shiftRight_one_eq_ofNat]
  cases c with
  | false => simp
  | true => exact congrArg (·, _) (or_twoPow_eq_add (k := 7) (by simp))

/-- The result and all the flags of a shift (R125). -/
theorem shifted_eq {shift : Byte → Bool → Byte × Bool} {v new : Byte} {c : Bool} {f : Flags}
    (h : shift v f.c = (new, c)) :
    shifted shift v f = (new, { f with c := c, z := decide (new = 0), n := new.msb }) := by
  rw [shifted, h, Flags.setNZ_eq]
  rfl

/-! ### Accumulator mode -/

/-- The state after a shift of A in accumulator mode (R84, R125). -/
def shiftA (shift : Byte → Bool → Byte × Bool) (s : State) : State :=
  { aloneDone 2 s with a := (shifted shift s.a s.flags).1, flags := (shifted shift s.a s.flags).2 }

theorem shiftA_eq {shift : Byte → Bool → Byte × Bool} {s : State} {new : Byte} {c : Bool}
    (h : shift s.a s.flags.c = (new, c)) :
    shiftA shift s =
      { aloneDone 2 s with a := new, flags := { s.flags with c := c, z := decide (new = 0), n := new.msb } } := by
  rw [shiftA, shifted_eq h]

theorem exec_of_shift_accumulator {i : Instr} {opcode : Byte} {shift : Byte → Bool → Byte × Bool}
    (h : execShape i = .modify opcode (shifted shift) .accumulator) (hbase : baseCycles opcode = 2) (s : State) :
    exec i s = .next (shiftA shift s) := by
  simp only [exec_eq_shape, h, ExecShape.run, modifyInstr, resolveNone_fetchOpcode, hbase]
  rfl

theorem exec_aslAcc (s : State) : exec .aslAcc s = .next (shiftA shiftAsl s) := exec_of_shift_accumulator rfl rfl s

theorem exec_lsrAcc (s : State) : exec .lsrAcc s = .next (shiftA shiftLsr s) := exec_of_shift_accumulator rfl rfl s

theorem exec_rolAcc (s : State) : exec .rolAcc s = .next (shiftA shiftRol s) := exec_of_shift_accumulator rfl rfl s

theorem exec_rorAcc (s : State) : exec .rorAcc s = .next (shiftA shiftRor s) := exec_of_shift_accumulator rfl rfl s

/-! ### The memory rows of each table -/

theorem modifies_of_mem_asl (b : Byte) (w : Word) : ∀ r ∈ Rows.asl b w, r.Modifies (shifted shiftAsl) := by
  intro r hr
  fin_cases hr <;> exact ⟨rfl, ⟨_, rfl, rfl⟩, rfl⟩

theorem modifies_of_mem_lsr (b : Byte) (w : Word) : ∀ r ∈ Rows.lsr b w, r.Modifies (shifted shiftLsr) := by
  intro r hr
  fin_cases hr <;> exact ⟨rfl, ⟨_, rfl, rfl⟩, rfl⟩

theorem modifies_of_mem_rol (b : Byte) (w : Word) : ∀ r ∈ Rows.rol b w, r.Modifies (shifted shiftRol) := by
  intro r hr
  fin_cases hr <;> exact ⟨rfl, ⟨_, rfl, rfl⟩, rfl⟩

theorem modifies_of_mem_ror (b : Byte) (w : Word) : ∀ r ∈ Rows.ror b w, r.Modifies (shifted shiftRor) := by
  intro r hr
  fin_cases hr <;> exact ⟨rfl, ⟨_, rfl, rfl⟩, rfl⟩

/-! ### The obligations -/

/-- Settles O20: a memory row is `Row.Modifies`, accumulator mode is `shiftA`, both on the shift in numbers. -/
theorem aslAndLsrShiftByOne : Obligations.AslAndLsrShiftByOne := fun b w s =>
  ⟨fun r hr => (modifies_of_mem_asl b w r hr).encode_and_exec (shifted_eq (shiftAsl_eq _ _)),
    ⟨rfl, (exec_aslAcc s).trans (congrArg _ (shiftA_eq (shiftAsl_eq _ _)))⟩,
    fun r hr => (modifies_of_mem_lsr b w r hr).encode_and_exec (shifted_eq (shiftLsr_eq _ _)),
    rfl, (exec_lsrAcc s).trans (congrArg _ (shiftA_eq (shiftLsr_eq _ _)))⟩

/-- Settles O21: as O20, with the old carry in the result. -/
theorem rolAndRorRotateThroughCarry : Obligations.RolAndRorRotateThroughCarry := fun b w s =>
  ⟨fun r hr => (modifies_of_mem_rol b w r hr).encode_and_exec (shifted_eq (shiftRol_eq _ _)),
    ⟨rfl, (exec_rolAcc s).trans (congrArg _ (shiftA_eq (shiftRol_eq _ _)))⟩,
    fun r hr => (modifies_of_mem_ror b w r hr).encode_and_exec (shifted_eq (shiftRor_eq _ _)),
    rfl, (exec_rorAcc s).trans (congrArg _ (shiftA_eq (shiftRor_eq _ _)))⟩

end Sys2Proof.Machine
end

section
/-! SUPPORT. Nine rotations (spec/43_shift_rotate.md, R128's corner cases): C above the byte is a ring of nine bits, which a
rotation turns by one place, so that nine of them turn it all the way round. -/

namespace Sys2Proof.Machine

/-! ### The ring of nine bits -/

/-- Bit `k` of the nine: the byte at places 0 to 7, C at place 8. -/
def ringBit (p : Byte × Bool) (k : Fin 9) : Bool := if k.val < 8 then p.1.getLsbD k.val else p.2

theorem ringBit_injective : Function.Injective ringBit := by
  intro p q h
  refine Prod.ext (BitVec.eq_of_getLsbD_eq fun i hi => ?_) (congrFun h 8)
  simpa [ringBit, hi] using congrFun h ⟨i, by omega⟩

/-- `rot` turns the ring by `d` places: the bit at `k` comes from `k + d`. -/
def Turns (rot : Byte × Bool → Byte × Bool) (d : Fin 9) : Prop := ∀ p k, ringBit (rot p) k = ringBit p (k + d)

/-- ROL turns the ring one place back, which is eight places on. -/
theorem turns_shiftRol : Turns (Function.uncurry shiftRol) 8 := by
  rintro ⟨v, c⟩ k
  cases c <;> fin_cases k <;> simp [ringBit, shiftRol]

theorem turns_shiftRor : Turns (Function.uncurry shiftRor) 1 := by
  rintro ⟨v, c⟩ k
  cases c <;> fin_cases k <;> simp [ringBit, shiftRor]

theorem Turns.iterate {rot : Byte × Bool → Byte × Bool} {d : Fin 9} (h : Turns rot d) (n : Nat) :
    Turns rot^[n] (n • d) := by
  induction n with
  | zero => intro p k; rw [zero_nsmul, add_zero]; rfl
  | succ n ih =>
    intro p k
    rw [Function.iterate_succ_apply', h, ih, succ_nsmul', add_assoc]

theorem Turns.iterate_nine {rot : Byte × Bool → Byte × Bool} {d : Fin 9} (h : Turns rot d) (p : Byte × Bool) :
    rot^[9] p = p := by
  have hround : ∀ e : Fin 9, 9 • e = 0 := by decide
  refine ringBit_injective (funext fun k => ?_)
  rw [h.iterate 9 p k, hround, add_zero]

/-! ### Repeated shifts of A -/

/-- Repeating an instruction that always answers a next state iterates on the state. -/
theorem repeat_next {f : StepOutcome → StepOutcome} {g : State → State} (h : ∀ u, f (.next u) = .next (g u)) (n : Nat)
    (s : State) : Nat.repeat f n (.next s) = .next (g^[n] s) := by
  induction n with
  | zero => rfl
  | succ n ih => rw [Nat.repeat, ih, h, Function.iterate_succ_apply']

section

variable (shift : Byte → Bool → Byte × Bool) (n : Nat) (s : State)

/-- A and C are all that repeated shifts of A work on. -/
theorem iterate_shiftA_a_c :
    (((shiftA shift)^[n] s).a, ((shiftA shift)^[n] s).flags.c) = (Function.uncurry shift)^[n] (s.a, s.flags.c) :=
  Function.Semiconj.iterate_right (f := fun u : State => (u.a, u.flags.c)) (fun _ => rfl) n s

theorem iterate_shiftA_pc : ((shiftA shift)^[n] s).pc = s.pc + n • 1 := by
  have h : Function.Semiconj State.pc (shiftA shift) (· + 1) := fun _ => rfl
  rw [h.iterate_right n s, add_right_iterate]

theorem iterate_shiftA_cycles : ((shiftA shift)^[n] s).cycles = s.cycles + n • 2 := by
  have h : Function.Semiconj State.cycles (shiftA shift) (· + 2) := fun _ => rfl
  rw [h.iterate_right n s, add_right_iterate]

/-- The registers, flags and memory that no shift of A writes. -/
def keptByShiftA (u : State) := (u.x, u.y, u.sp, u.flags.v, u.flags.d, u.flags.i, u.mem)

theorem iterate_shiftA_kept : keptByShiftA ((shiftA shift)^[n] s) = keptByShiftA s := by
  have h : keptByShiftA ∘ shiftA shift = keptByShiftA := rfl
  exact congrFun (Function.iterate_invariant h n) s

end

/-- Settles O22: ROL A turns the ring of C and A one way, ROR A the other, and nine turns are a whole round. -/
theorem nineRotationsRestoreByteAndCarry : Obligations.NineRotationsRestoreByteAndCarry := by
  intro s i hi
  obtain ⟨shift, d, hexec, hturns⟩ : ∃ shift d,
      (∀ u, exec i u = .next (shiftA shift u)) ∧ Turns (Function.uncurry shift) d := by
    rcases List.mem_pair.mp hi with rfl | rfl
    · exact ⟨shiftRol, 8, exec_rolAcc, turns_shiftRol⟩
    · exact ⟨shiftRor, 1, exec_rorAcc, turns_shiftRor⟩
  obtain ⟨ha, hc⟩ := Prod.mk.inj ((iterate_shiftA_a_c shift 9 s).trans (hturns.iterate_nine _))
  have hkept := iterate_shiftA_kept shift 9 s
  simp only [keptByShiftA, Prod.mk.injEq] at hkept
  exact ⟨(shiftA shift)^[9] s, repeat_next hexec 9 s, ha, hc, iterate_shiftA_pc shift 9 s,
    iterate_shiftA_cycles shift 9 s, hkept⟩

end Sys2Proof.Machine
end

section
/-! SUPPORT. Loads, stores and transfers (spec/44_load_store_transfer.md R130-R141): a load is a row that reads, a store a row that
writes one register's byte, a transfer an implied instruction. -/

namespace Sys2Proof.Machine

/-! ### The rows of the loads (R130-R132) -/

theorem reads_of_mem_lda (b : Byte) (w : Word) : ∀ r ∈ Rows.lda b w, r.Reads resultToA := by
  intro r hr
  fin_cases hr <;> exact ⟨rfl, ⟨_, rfl, rfl⟩, rfl⟩

theorem reads_of_mem_ldx (b : Byte) (w : Word) : ∀ r ∈ Rows.ldx b w, r.Reads resultToX := by
  intro r hr
  fin_cases hr <;> exact ⟨rfl, ⟨_, rfl, rfl⟩, rfl⟩

theorem reads_of_mem_ldy (b : Byte) (w : Word) : ∀ r ∈ Rows.ldy b w, r.Reads resultToY := by
  intro r hr
  fin_cases hr <;> exact ⟨rfl, ⟨_, rfl, rfl⟩, rfl⟩

/-! ### The rows of the stores (R133-R135) -/

/-- The row's instruction is `storeInstr` of `value` at the row's operand, and the row's bytes and base cycles are the model's. -/
structure Row.Stores (r : Row AddrMode) (value : State → Byte) : Prop where
  encode_eq : encode r.instr = r.bytes
  shape_eq : ∃ opcode, execShape r.instr = .store opcode value r.operand ∧ baseCycles opcode = r.base
  length_eq : 1 + r.operand.operandBytes = r.bytes.length

/-- A row's two claims: its bytes, and the byte `v` that `value` gives after the resolution, at the effective address. -/
theorem Row.Stores.encode_and_exec {r : Row AddrMode} {value : State → Byte} (h : r.Stores value) {s : State} {v : Byte}
    (hvalue : value { placeDone r s with cycles := s.cycles } = v) :
    encode r.instr = r.bytes ∧
      exec r.instr s = .next { placeDone r s with mem := (writeByte s (placeOf r.operand s) v).mem } := by
  have hresolved : (resolve r.operand (fetchOpcode s)).2 = { placeDone r s with cycles := s.cycles } := by
    rw [resolve_eq, fetchOpcode_pc, pc_past, h.length_eq]
    rfl
  obtain ⟨opcode, hshape, hbase⟩ := h.shape_eq
  refine ⟨h.encode_eq, ?_⟩
  rw [exec_eq_shape, hshape, ExecShape.run, storeInstr_eq, hresolved, hvalue, hbase]
  rfl

theorem stores_of_mem_sta (b : Byte) (w : Word) : ∀ r ∈ Rows.sta b w, r.Stores State.a := by
  intro r hr
  fin_cases hr <;> exact ⟨rfl, ⟨_, rfl, rfl⟩, rfl⟩

theorem stores_of_mem_stx (b : Byte) (w : Word) : ∀ r ∈ Rows.stx b w, r.Stores State.x := by
  intro r hr
  fin_cases hr <;> exact ⟨rfl, ⟨_, rfl, rfl⟩, rfl⟩

theorem stores_of_mem_sty (b : Byte) (w : Word) : ∀ r ∈ Rows.sty b w, r.Stores State.y := by
  intro r hr
  fin_cases hr <;> exact ⟨rfl, ⟨_, rfl, rfl⟩, rfl⟩

/-! ### The obligations -/

/-- Settles O23: the three bodies put the operand in different registers. -/
theorem loadsWriteTheRegisterAndNZ : Obligations.LoadsWriteTheRegisterAndNZ := fun b w s =>
  ⟨fun r hr => (reads_of_mem_lda b w r hr).encode_and_exec (by rw [resultToA_eq]; rfl),
    fun r hr => (reads_of_mem_ldx b w r hr).encode_and_exec (by rw [resultToX_eq]; rfl),
    fun r hr => (reads_of_mem_ldy b w r hr).encode_and_exec (by rw [resultToY_eq]; rfl)⟩

/-- Settles O24: the resolution leaves the register that is stored as it was. -/
theorem storesWriteOneByteAndNoFlag : Obligations.StoresWriteOneByteAndNoFlag := fun b w _ =>
  ⟨fun r hr => (stores_of_mem_sta b w r hr).encode_and_exec rfl,
    fun r hr => (stores_of_mem_stx b w r hr).encode_and_exec rfl,
    fun r hr => (stores_of_mem_sty b w r hr).encode_and_exec rfl⟩

/-- Settles O25: all six are implied; TXS only sets SP, the others leave a result in their destination. -/
theorem transfersCopyARegister : Obligations.TransfersCopyARegister := fun _ =>
  ⟨⟨rfl, by rw [exec_of_implied rfl, resultToX_eq]; rfl⟩,
    ⟨rfl, by rw [exec_of_implied rfl, resultToY_eq]; rfl⟩,
    ⟨rfl, by rw [exec_of_implied rfl, resultToA_eq]; rfl⟩,
    ⟨rfl, by rw [exec_of_implied rfl, resultToA_eq]; rfl⟩,
    ⟨rfl, by rw [exec_of_implied rfl, resultToX_eq]; rfl⟩,
    ⟨rfl, by rw [exec_of_implied rfl]; rfl⟩⟩

end Sys2Proof.Machine
end

section
/-! SUPPORT. Control transfer (spec/45_control_flow.md R145-R156): the whole state a jump, a branch, JSR and RTS leave, and why RTS
goes back to where JSR came from. -/

namespace Sys2Proof.Machine

/-! ### JSR and RTS (R155, R156) -/

/-- A word whose bytes stand in the two slots above SP is popped, whoever put them there (R103). -/
theorem pop16_of_slots {u : State} {sp : Byte} {w : Word} (hsp : u.sp = sp - 2)
    (hhigh : readByte u (stackAddr sp) = highByte w) (hlow : readByte u (stackAddr (sp - 1)) = lowByte w) :
    pop16 u = (w, { u with sp := sp }) := by
  have hfirst : u.sp + 1 = sp - 1 := by rw [hsp]; bv_omega
  have hsecond : u.sp + 2 = sp := by rw [hsp]; exact BitVec.sub_add_cancel sp 2
  rw [pop16_eq, hfirst, hsecond, hlow, hhigh, joinBytes_high_low]

/-- All that JSR changes: PC past the three bytes, less one, is the address of the last byte, and that is pushed (R155). -/
theorem exec_jsr (w : Word) (s : State) :
    exec (.jsr w) s = .next { s with
      pc := w, sp := s.sp - 2, pageCrossed := false, cycles := s.cycles + 6, mem := (push16 (s.pc + 2) s).mem } := by
  have hlast : s.pc + 1 + 2 - 1 = s.pc + 2 := by bv_omega
  calc exec (.jsr w) s
      = .next { push16 (s.pc + 1 + 2 - 1) s with
          pc := w, pageCrossed := false, cycles := s.cycles + 6 } := rfl
    _ = _ := by rw [hlast, push16_eq]

/-- All that RTS changes, in terms of the word it pops (R156). -/
theorem exec_rts (s : State) :
    exec .rts s = .next { (pop16 s).2 with pc := (pop16 s).1 + 1, pageCrossed := false, cycles := s.cycles + 6 } := by
  rw [exec_of_implied rfl]
  rfl

/-- Settles O30: RTS pops the word JSR pushed, PC + 2, from the slots JSR put it in. -/
theorem rtsAfterJsrReturnsToTheNextInstruction : Obligations.RtsAfterJsrReturnsToTheNextInstruction := by
  intro w s t u hjsr hsp hhigh hlow
  rw [exec_jsr] at hjsr
  injection hjsr with ht
  subst ht
  have hpopped : pop16 u = (s.pc + 2, { u with sp := s.sp }) :=
    pop16_of_slots hsp (hhigh.trans (readByte_push16_high (s.pc + 2) s)) (hlow.trans (readByte_push16_low (s.pc + 2) s))
  have hnext : s.pc + 2 + 1 = s.pc + 3 := BitVec.add_assoc s.pc 2 1
  rw [exec_rts, hpopped, hnext]

/-- Settles O28: the memory JSR leaves is the one after the 16-bit push. -/
theorem jsrPushesTheAddressOfItsLastByte : Obligations.JsrPushesTheAddressOfItsLastByte := fun w s =>
  ⟨rfl, _, exec_jsr w s, rfl, readByte_push16_high (s.pc + 2) s, readByte_push16_low (s.pc + 2) s,
    fun _ hhigh hlow => readByte_push16_ne (s.pc + 2) s hhigh hlow⟩

/-- Settles O29: the popped word is read from the two slots above SP. -/
theorem rtsReturnsPastThePoppedAddress : Obligations.RtsReturnsPastThePoppedAddress := fun s =>
  ⟨rfl, by rw [exec_rts, pop16_eq]⟩

/-! ### JMP (R145) -/

/-- Everything a jump to `ea` does: its mode has no base, so no crossing is reported (D27). -/
theorem exec_of_jump {i : Instr} {opcode : Byte} {m : AddrMode} {base : Nat} {ea : Word} {s : State}
    (h : execShape i = .jump opcode m) (hbase : baseCycles opcode = base) (hnone : baseAddr m (fetchOpcode s) = none)
    (hea : effectiveAddr m (fetchOpcode s) = ea) :
    exec i s = .next { s with pc := ea, pageCrossed := false, cycles := s.cycles + base } := by
  have hcrossed : addrCrossed m (fetchOpcode s) = false := by rw [addrCrossed, hnone]
  rw [exec_eq_shape, h, ExecShape.run, jumpInstr, resolve_eq, hcrossed, hea, hbase]
  rfl

/-- The pointer-wrap defect is about where the high byte is read (R52). -/
theorem readBuggy16_eq_joinBytes (s : State) (ptr : Word) :
    readBuggy16 s ptr =
      joinBytes (readByte s (if lowByte ptr = 0xFF then ptr &&& 0xFF00 else ptr + 1)) (readByte s ptr) :=
  (apply_ite (fun high => joinBytes (readByte s high) (readByte s ptr)) _ _ _).symm

/-- Settles O26: the absolute mode resolves to the operand word, the indirect mode to the word read with the defect. -/
theorem jmpSetsPcToTheResolvedAddress : Obligations.JmpSetsPcToTheResolvedAddress := fun w s =>
  ⟨rfl, exec_of_jump rfl rfl rfl rfl, rfl,
    exec_of_jump rfl rfl rfl (readBuggy16_eq_joinBytes (fetchOpcode s) w)⟩

/-! ### The branches (R146-R154) -/

/-- The operand of a branch is consumed whether it is taken or not; the target counts from the next instruction (R89, R146). -/
theorem resolve_relative_fetchOpcode (rr : Byte) (s : State) :
    resolve (.relative rr) (fetchOpcode s) =
      (s.pc + 2 + sext16 rr, { s with pc := s.pc + 2, pageCrossed := crossed (s.pc + 2) (s.pc + 2 + sext16 rr) }) := by
  have hnext : s.pc + 1 + 1 = s.pc + 2 := BitVec.add_assoc s.pc 1 1
  rw [← hnext]
  rfl

/-- The state a branch leaves (R146): `page_crossed` is the page test of the target, taken or not (log entry 15). -/
def branchDone (rr : Byte) (taken : Bool) (s : State) : State :=
  let next := s.pc + 2
  let target := next + rr.signExtend 16
  let far := decide (next.toNat / 256 ≠ target.toNat / 256)
  if taken = true then { s with pc := target, pageCrossed := far, cycles := s.cycles + (if far = true then 4 else 3) }
  else { s with pc := next, pageCrossed := far, cycles := s.cycles + 2 }

theorem exec_of_branch {i : Instr} {opcode : Byte} {cond : Flags → Bool} {rr : Byte}
    (h : execShape i = .branch opcode cond rr) (hbase : baseCycles opcode = 2) (s : State) :
    exec i s = .next (branchDone rr (cond s.flags) s) := by
  have hcycles : ∀ far : Bool, 2 + 1 + far.toNat = if far = true then 4 else 3 := by decide
  rw [exec_eq_shape, h, ExecShape.run, branchInstr, resolve_relative_fetchOpcode, crossed_eq_decide, hbase, hcycles]
  rfl

/-- Settles O27: each of the eight is a branch on its flag, with two base cycles. -/
theorem branchesTestTheirFlag : Obligations.BranchesTestTheirFlag := by
  intro b s next target far r hr
  obtain ⟨hencode, opcode, cond, hshape, hbase, hcond⟩ : encode r.1 = r.2.1 ∧ ∃ opcode cond,
      execShape r.1 = .branch opcode cond b ∧ baseCycles opcode = 2 ∧ cond s.flags = r.2.2 := by
    fin_cases hr <;> exact ⟨rfl, _, _, rfl, rfl, rfl⟩
  rw [← hcond]
  exact ⟨hencode, exec_of_branch hshape hbase s⟩

end Sys2Proof.Machine
end

section
/-! SUPPORT. The flag and stack instructions (spec/46_flags_stack_misc.md R160-R171): what a one-byte instruction that writes only flags
leaves, and the byte PHP pushes. -/

namespace Sys2Proof.Machine

/-! ### The flag instructions and NOP (R160-R166, R171) -/

/-- An implied instruction whose body replaces the flags by `change` of them: besides the flags, only what every one-byte
instruction writes is touched. -/
theorem exec_of_flag_change (change : Flags → Flags) {i : Instr} {opcode : Byte} {base : Nat} {s : State} {flags : Flags}
    (h : execShape i = .implied opcode fun s => s.setFlags (change s.flags)) (hbase : baseCycles opcode = base)
    (hflags : change s.flags = flags) : exec i s = .next { aloneDone base s with flags := flags } := by
  rw [exec_of_implied h, hbase, ← hflags]
  rfl

/-- Settles O31: seven of the eight are a change of one flag, NOP's body is the identity. -/
theorem flagInstructionsWriteOneFlag : Obligations.FlagInstructionsWriteOneFlag := fun _ =>
  ⟨⟨rfl, exec_of_flag_change (·.setC false) rfl rfl rfl⟩,
    ⟨rfl, exec_of_flag_change (·.setD false) rfl rfl rfl⟩,
    ⟨rfl, exec_of_flag_change (·.setI false) rfl rfl rfl⟩,
    ⟨rfl, exec_of_flag_change (·.setV false) rfl rfl rfl⟩,
    ⟨rfl, exec_of_flag_change (·.setC true) rfl rfl rfl⟩,
    ⟨rfl, exec_of_flag_change (·.setD true) rfl rfl rfl⟩,
    ⟨rfl, exec_of_flag_change (·.setI true) rfl rfl rfl⟩,
    ⟨rfl, by rw [exec_of_implied rfl]; rfl⟩⟩

/-! ### Pushes (R167, R168) -/

/-- The status byte as the sum of its flags' weights (R27). -/
theorem statusByte_eq_ofNat (brk : Bool) (f : Flags) :
    statusByte brk f = BitVec.ofNat 8 (128 * f.n.toNat + 64 * f.v.toNat + 32 + 16 * brk.toNat + 8 * f.d.toNat +
      4 * f.i.toNat + 2 * f.z.toNat + f.c.toNat) := by
  rw [← statusByte_toNat, BitVec.ofNat_toNat, BitVec.setWidth_eq]

/-- An implied instruction that pushes `value`, which the fetch and the resolution leave as it was (R100). -/
theorem exec_of_push {i : Instr} {opcode : Byte} {base : Nat} {value : State → Byte} {s : State}
    (h : execShape i = .implied opcode fun s => push (value s) s) (hbase : baseCycles opcode = base)
    (hvalue : value { s with pc := s.pc + 1, pageCrossed := false } = value s) :
    exec i s = .next
      { aloneDone base s with sp := s.sp - 1, mem := (writeByte s (stackAddr s.sp) (value s)).mem } := by
  rw [exec_of_implied h, hbase, hvalue]
  rfl

/-- Settles O32: PHA pushes A, PHP the status byte with Break 1 (D6). -/
theorem phaAndPhpPushOneByte : Obligations.PhaAndPhpPushOneByte := by
  intro s status
  have hstatus : statusByte true s.flags = status := statusByte_eq_ofNat true s.flags
  rw [← hstatus]
  exact ⟨rfl, exec_of_push (value := State.a) rfl rfl rfl, rfl,
    exec_of_push (value := fun s => statusByte true s.flags) rfl rfl rfl⟩

/-! ### Pulls (R169, R170) -/

/-- Settles O33: both pop the byte above SP; PLA's is a result put in A, PLP's is split into the six flags (R28). -/
theorem plaAndPlpPullOneByte : Obligations.PlaAndPlpPullOneByte := by
  intro s v
  refine ⟨rfl, ?_, rfl, ?_⟩
  · rw [exec_of_implied rfl, pullA, pop_eq, resultToA_eq]
    rfl
  · rw [exec_of_implied rfl, pullFlags, pop_eq]
    rfl

end Sys2Proof.Machine
end

section
/-! SUPPORT. BRK and RTI (spec/47_system.md R175-R177): the three bytes of an interrupt's frame (60_exceptions.md R186), the whole
state BRK and RTI leave, and why RTI goes back to where an entry came from. -/

namespace Sys2Proof.Machine

/-! ### A word and a byte pushed: the frame (R186) -/

theorem readByte_push_push16_byte (v : Byte) (w : Word) (s : State) :
    readByte (push v (push16 w s)) (stackAddr (s.sp - 2)) = v := by
  have hsp : s.sp - 2 = (push16 w s).sp := by rw [push16_eq]
  rw [hsp, readByte_push_same]

/-- The byte, pushed last, leaves every slot but its own to the push of the word. -/
theorem readByte_push_push16_of_ne_byte (v : Byte) (w : Word) (s : State) {a : Word} (h : a ≠ stackAddr (s.sp - 2)) :
    readByte (push v (push16 w s)) a = readByte (push16 w s) a := by
  have hslot : a ≠ stackAddr (push16 w s).sp := by rwa [push16_eq]
  rw [readByte_push_ne _ _ hslot]

theorem readByte_push_push16_high (v : Byte) (w : Word) (s : State) :
    readByte (push v (push16 w s)) (stackAddr s.sp) = highByte w := by
  have hslot : stackAddr s.sp ≠ stackAddr (s.sp - 2) := by
    rw [Ne, stackAddr_inj]
    bv_omega
  rw [readByte_push_push16_of_ne_byte v w s hslot, readByte_push16_high]

theorem readByte_push_push16_low (v : Byte) (w : Word) (s : State) :
    readByte (push v (push16 w s)) (stackAddr (s.sp - 1)) = lowByte w := by
  have hslot : stackAddr (s.sp - 1) ≠ stackAddr (s.sp - 2) := by
    rw [Ne, stackAddr_inj]
    bv_omega
  rw [readByte_push_push16_of_ne_byte v w s hslot, readByte_push16_low]

theorem readByte_push_push16_ne (v : Byte) (w : Word) (s : State) {a : Word} (h0 : a ≠ stackAddr s.sp)
    (h1 : a ≠ stackAddr (s.sp - 1)) (h2 : a ≠ stackAddr (s.sp - 2)) :
    readByte (push v (push16 w s)) a = readByte s a := by
  rw [readByte_push_push16_of_ne_byte v w s h2, readByte_push16_ne w s h0 h1]

/-- The IRQ/BRK vector lies above the stack page, so it is read as it was before the pushes (R58, R104). -/
theorem read16_irqVector_push_push16 (v : Byte) (w : Word) (s : State) :
    read16 (push v (push16 w s)) irqVector = read16 s irqVector := by
  have hkept : ∀ a : Word, 511 < a.toNat → readByte (push v (push16 w s)) a = readByte s a := fun a ha =>
    have hslot := ne_stackAddr_of_outside_page (.inr ha)
    readByte_push_push16_ne v w s (hslot _) (hslot _) (hslot _)
  rw [read16, read16, hkept irqVector (by decide), hkept (irqVector + 1) (by decide)]

/-- An entry leaves the bytes its pushes left: setting I and loading PC write none. -/
theorem readByte_interruptEntry (vec : Word) (brk : Bool) (s : State) (a : Word) :
    readByte (interruptEntry vec brk s) a = readByte (push (statusByte brk s.flags) (push16 s.pc s)) a :=
  readByte_congr (by rw [interruptEntry_eq]) a

/-! ### BRK (R175) -/

/-- All that BRK changes: the padding byte is skipped, so PC + 2 is pushed (D12), and I is not looked at (D32). -/
theorem exec_brk (s : State) :
    exec .brk s = .next { s with
      pc := read16 s irqVector, sp := s.sp - 3, pageCrossed := false, cycles := s.cycles + 7
      mem := (push (statusByte true s.flags) (push16 (s.pc + 2) s)).mem
      flags := { s.flags with i := s.flags.i || s.params.entrySetsI } } := by
  have hskipped : s.pc + 1 + 1 = s.pc + 2 := BitVec.add_assoc s.pc 1 1
  rw [exec_of_implied rfl, softwareInterrupt, State.setPC, hskipped, interruptEntry_eq, read16_irqVector_push_push16]
  rfl

/-- The memory BRK leaves is the one after its pushes, PC + 2 and the status byte with Break 1. -/
theorem readByte_of_exec_brk {s t : State} (h : exec .brk s = .next t) (a : Word) :
    readByte t a = readByte (push (statusByte true s.flags) (push16 (s.pc + 2) s)) a := by
  rw [exec_brk] at h
  injection h with ht
  exact readByte_congr (by rw [← ht]) a

/-- Settles O34: the four claims about memory are those about the frame BRK pushes. -/
theorem brkEntersThroughTheIrqVector : Obligations.BrkEntersThroughTheIrqVector := by
  intro s
  have hread := readByte_of_exec_brk (exec_brk s)
  exact ⟨rfl, _, exec_brk s, rfl, (hread _).trans (readByte_push_push16_high _ _ s),
    (hread _).trans (readByte_push_push16_low _ _ s), (hread _).trans (readByte_push_push16_byte _ _ s),
    fun _ hhigh hlow hstatus => (hread _).trans (readByte_push_push16_ne _ _ s hhigh hlow hstatus)⟩

/-! ### RTI (R176, R177) -/

/-- All that RTI changes: the byte above SP goes to the flags (R28), the two above that to PC, with no + 1. -/
theorem exec_rti (s : State) :
    exec .rti s = .next { s with
      pc := joinBytes (readByte s (stackAddr (s.sp + 3))) (readByte s (stackAddr (s.sp + 2)))
      sp := s.sp + 3
      flags := flagsOfByte (readByte s (stackAddr (s.sp + 1)))
      pageCrossed := false, cycles := s.cycles + 6 } := by
  rw [exec_of_implied rfl, returnFromInterrupt_eq]
  rfl

/-- Settles O35: `flagsOfByte` is the six bits. -/
theorem rtiRestoresFlagsAndPc : Obligations.RtiRestoresFlagsAndPc := fun s => ⟨rfl, exec_rti s⟩

/-- RTI from a frame that stands in the three slots above SP, whoever put it there, restores what the frame was made of. -/
theorem exec_rti_of_frame {u : State} {sp : Byte} {pc : Word} {brk : Bool} {flags : Flags} (hsp : u.sp = sp - 3)
    (hhigh : readByte u (stackAddr sp) = highByte pc) (hlow : readByte u (stackAddr (sp - 1)) = lowByte pc)
    (hstatus : readByte u (stackAddr (sp - 2)) = statusByte brk flags) :
    exec .rti u = .next
      { u with pc := pc, sp := sp, flags := flags, pageCrossed := false, cycles := u.cycles + 6 } := by
  have hfirst : u.sp + 1 = sp - 2 := by rw [hsp]; bv_omega
  have hsecond : u.sp + 2 = sp - 1 := by rw [hsp]; bv_omega
  have hthird : u.sp + 3 = sp := by rw [hsp]; exact BitVec.sub_add_cancel sp 3
  rw [exec_rti, hfirst, hsecond, hthird, hstatus, hlow, hhigh, flagsOfByte_statusByte, joinBytes_high_low]

/-- Settles O36: the three bytes the entry left are the frame RTI takes apart. -/
theorem rtiUndoesAnInterruptEntry : Obligations.RtiUndoesAnInterruptEntry := by
  intro vec brk s u hsp hframe
  simp only [readByte_interruptEntry] at hframe
  have hhigh := hframe 0 (by decide)
  have hlow := hframe 1 (by decide)
  have hstatus := hframe 2 (by decide)
  rw [BitVec.sub_zero] at hhigh
  exact exec_rti_of_frame hsp (hhigh.trans (readByte_push_push16_high _ s.pc s))
    (hlow.trans (readByte_push_push16_low _ s.pc s)) (hstatus.trans (readByte_push_push16_byte _ s.pc s))

end Sys2Proof.Machine
end

section
/-! SUPPORT. Interrupts (spec/60_exceptions.md R182-R187): which request is selected, what servicing it leaves, and the frame an
entry pushes. -/

namespace Sys2Proof.Machine

/-! ### The selected request (R182) -/

theorem selectService_of_reset {s : State} (h : s.resetReq = true) : selectService s = some .reset := by
  simp [selectService, h]

theorem selectService_of_nmi {s : State} (hreset : s.resetReq = false) (h : s.nmiReq = true) :
    selectService s = some .nmi := by
  simp [selectService, hreset, h]

/-- Behind Reset and NMI the IRQ line is looked at, and only with I clear. -/
theorem selectService_of_quiet {s : State} (hreset : s.resetReq = false) (hnmi : s.nmiReq = false) :
    selectService s = if (s.irqLine && !s.flags.i) = true then some .irq else none := by
  simp [selectService, hreset, hnmi]

theorem selectService_of_irq {s : State} (hreset : s.resetReq = false) (hnmi : s.nmiReq = false)
    (hirq : s.irqLine = true) (hi : s.flags.i = false) : selectService s = some .irq := by
  simp [selectService_of_quiet hreset hnmi, hirq, hi]

theorem selectService_of_masked {s : State} (hreset : s.resetReq = false) (hnmi : s.nmiReq = false)
    (hi : s.flags.i = true) : selectService s = none := by
  simp [selectService_of_quiet hreset hnmi, hi]

theorem selectService_of_no_request {s : State} (hreset : s.resetReq = false) (hnmi : s.nmiReq = false)
    (hirq : s.irqLine = false) : selectService s = none := by
  simp [selectService_of_quiet hreset hnmi, hirq]

/-- Settles O40: the five lines of R182's table, and `serviceInterrupts_requests`. -/
theorem servicePriorityIsResetNmiIrq : Obligations.ServicePriorityIsResetNmiIrq := by
  intro s
  obtain ⟨hreset, hnmi, hirq, -⟩ := serviceInterrupts_requests s
  exact ⟨selectService_of_reset, selectService_of_nmi, selectService_of_irq,
    fun hr hn _ => selectService_of_masked hr hn, selectService_of_no_request, hreset, hnmi, hirq⟩

/-! ### Interrupt entry (R186) -/

theorem interruptEntry_cycles (vec : Word) (brk : Bool) (s : State) : (interruptEntry vec brk s).cycles = s.cycles := by
  rw [interruptEntry_eq]

theorem interruptEntry_mem (vec : Word) (brk : Bool) (s : State) :
    (interruptEntry vec brk s).mem = (push (statusByte brk s.flags) (push16 s.pc s)).mem := by
  rw [interruptEntry_eq]

/-- Settles O42: the entry's memory is the one its pushes leave, and the vector is read from that. -/
theorem interruptEntryPushesAFrame : Obligations.InterruptEntryPushesAFrame := by
  intro vec brk s t
  have hmem : t.mem = (push (statusByte brk s.flags) (push16 s.pc s)).mem := interruptEntry_mem vec brk s
  have hread := readByte_congr hmem
  refine ⟨?_, (hread _).trans (readByte_push_push16_high _ s.pc s), (hread _).trans (readByte_push_push16_low _ s.pc s),
    (hread _).trans (readByte_push_push16_byte _ s.pc s), fun _ => readByte_interruptEntry_ne vec brk s⟩
  rw [read16_congr hmem, hmem]
  exact interruptEntry_eq vec brk s

/-! ### The services (R183-R185, R228) -/

theorem serviceInterrupts_of_none {s : State} (h : selectService s = none) : serviceInterrupts s = s := by
  rw [serviceInterrupts, h]

/-- IRQ with I clear enters through 0xFFFE, Break 0 (D6), for 7 cycles. -/
theorem serviceInterrupts_of_irq {s : State} (hreset : s.resetReq = false) (hnmi : s.nmiReq = false)
    (hirq : s.irqLine = true) (hi : s.flags.i = false) :
    serviceInterrupts s = { interruptEntry 0xFFFE false s with cycles := s.cycles + 7 } := by
  rw [serviceInterrupts, selectService_of_irq hreset hnmi hirq hi, ← interruptEntry_cycles 0xFFFE false s]
  rfl

/-- A service costs 7 cycles, no service costs none. -/
theorem serviceInterrupts_cycles (s : State) :
    (serviceInterrupts s).cycles = s.cycles + if selectService s = none then 0 else 7 := by
  unfold serviceInterrupts
  cases selectService s with
  | none => rfl
  | some service =>
    cases service with
    | reset => rfl
    | nmi => exact congrArg (· + 7) (interruptEntry_cycles nmiVector false s)
    | irq => exact congrArg (· + 7) (interruptEntry_cycles irqVector false s)

/-- Settles O41: the selected service is Reset's, which reads the vector and nothing else. -/
theorem resetServiceLoadsTheResetVector : Obligations.ResetServiceLoadsTheResetVector := by
  intro s h
  rw [serviceInterrupts, selectService_of_reset h]
  rfl

/-- Settles O43: NMI's entry, its request cleared; IRQ's entry. -/
theorem nmiAndIrqEnterThroughTheirVectors : Obligations.NmiAndIrqEnterThroughTheirVectors := by
  intro s hreset
  refine ⟨fun hnmi => ?_, serviceInterrupts_of_irq hreset⟩
  rw [serviceInterrupts, selectService_of_nmi hreset hnmi, ← interruptEntry_cycles 0xFFFA false s]
  rfl

/-- Settles O44: a masked line is not selected, an unmasked one is serviced. -/
theorem maskedIrqIsANoOp : Obligations.MaskedIrqIsANoOp := by
  intro s hreset hnmi hirq
  split
  · next hi => exact serviceInterrupts_of_none (selectService_of_masked hreset hnmi hi)
  · next hi => exact serviceInterrupts_of_irq hreset hnmi hirq (Bool.eq_false_of_not_eq_true hi)

end Sys2Proof.Machine
end

section
/-! SUPPORT. The step (spec/60_exceptions.md R180-R193): the three answers it can give and when it gives each, the cycles it adds
(70_reset_and_hazards.md R224-R230), and the end of a run (R203). -/

namespace Sys2Proof.Machine

/-! ### The three answers of a step -/

/-- Before the first powerOn (R213). -/
theorem step_of_unpowered {s : State} (h : s.powered = false) : step s = .refused .notPoweredOn := by
  simp [step, runStep, h]

/-- The bytes fetched after the interrupt check decode: their instruction runs (R188-R190). -/
theorem step_of_decode {s : State} {i : Instr} {rest : List Byte} (hpowered : s.powered = true)
    (h : decode s.params.admitted (fetchBytes (serviceInterrupts s)) = .ok i rest) :
    step s = exec i (serviceInterrupts s) := by
  obtain ⟨-, -, -, -, hparams, -⟩ := serviceInterrupts_requests s
  simp only [step, runStep, hpowered, if_true, fetchDecodeExecute, hparams, h]

/-- Every step is refused, faults on the fetched byte, or runs one instruction, and the state before it says which. -/
theorem step_answers (s : State) :
    (s.powered = false ∧ step s = .refused .notPoweredOn) ∨
    (s.powered = true ∧ lookupOpcode s.params.admitted (readByte (serviceInterrupts s) (serviceInterrupts s).pc) = none ∧
      step s = .fault (.unmappedOpcode (readByte (serviceInterrupts s) (serviceInterrupts s).pc) (serviceInterrupts s).pc
        (fetchOpcode (serviceInterrupts s)))) ∨
    (s.powered = true ∧ ∃ i, step s = .next ((execShape i).run (serviceInterrupts s))) := by
  cases hpowered : s.powered with
  | false => exact .inl ⟨rfl, step_of_unpowered hpowered⟩
  | true =>
    by_cases hlookup : lookupOpcode s.params.admitted (readByte (serviceInterrupts s) (serviceInterrupts s).pc) = none
    · exact .inr (.inl ⟨rfl, hlookup, step_of_lookup_none hpowered hlookup⟩)
    · obtain ⟨i, rest, hdecode⟩ := exists_decode_of_lookup hlookup _ _
      exact .inr (.inr ⟨rfl, i, (step_of_decode hpowered hdecode).trans (exec_eq_shape i _)⟩)

/-- Settles O1: the three bytes written out are `fetchBytes`. -/
theorem stepRunsTheDecodedInstruction : Obligations.StepRunsTheDecodedInstruction :=
  ⟨fun _ _ _ hpowered hdecode _ => step_of_decode hpowered hdecode, fun _ => serviceInterrupts_of_none⟩

/-- Settles O45: the fault of `step_of_lookup_none`, which the host's call hands on. -/
theorem unmappedOpcodeFaultsAfterTheFetch : Obligations.UnmappedOpcodeFaultsAfterTheFetch := by
  intro s hpowered u hlookup
  obtain ⟨-, -, -, -, hparams, -⟩ := serviceInterrupts_requests s
  have hstep := step_of_lookup_none hpowered (hparams ▸ hlookup)
  refine ⟨hstep, ?_⟩
  rw [hostStep, hstep]
  rfl

/-- Settles O46: every instruction runs its shape; of a step, each answer of `step_answers`. -/
theorem onlyUnmappedBytesAndNoPowerStopAStep : Obligations.OnlyUnmappedBytesAndNoPowerStopAStep := by
  refine ⟨fun i s => ⟨_, exec_eq_shape i s⟩, fun s => ?_⟩
  obtain ⟨hpowered, h⟩ | ⟨hpowered, hlookup, h⟩ | ⟨hpowered, i, h⟩ := step_answers s <;> rw [h]
  · exact ⟨hpowered, rfl⟩
  · exact ⟨hpowered, rfl, rfl, hlookup⟩
  · exact hpowered

/-! ### Cycles (R224-R230) -/

/-- The opcode byte a shape takes its base cycles from (R227). -/
def ExecShape.opcode : ExecShape → Byte
  | .read opcode _ _ | .store opcode _ _ | .modify opcode _ _ | .implied opcode _ | .branch opcode _ _ | .jump opcode _ => opcode
  | .call _ => 0x20

/-- The most a shape adds to its base cycles: the page crossed by a read (R226), a branch taken to another page (R225). -/
def ExecShape.maxPenalty : ExecShape → Nat
  | .read _ _ _ => 1
  | .branch _ _ _ => 2
  | _ => 0

/-- A shape adds its base cycles and at most its penalty, when its effect adds none. -/
theorem ExecShape.run_cycles (e : ExecShape) (he : ∀ v s, (e.effect v s).cycles = s.cycles) (s : State) :
    ∃ penalty ≤ e.maxPenalty, (e.run s).cycles = s.cycles + (baseCycles e.opcode + penalty) := by
  cases e with
  | read opcode body src =>
    have hloaded : (loadSource src (fetchOpcode s)).2.cycles = s.cycles := by rw [loadSource_state]; rfl
    exact ⟨_, Bool.toNat_le _, congrArg (· + _) ((he _ _).trans hloaded)⟩
  | store opcode value m => exact ⟨0, Nat.le_refl 0, rfl⟩
  | modify opcode op target => cases target <;> exact ⟨0, Nat.le_refl 0, rfl⟩
  | implied opcode body => exact ⟨0, Nat.le_refl 0, congrArg (· + _) (he 0 (resolveNone (fetchOpcode s)))⟩
  | branch opcode cond rr =>
    unfold ExecShape.run branchInstr
    dsimp only
    split
    · exact ⟨1 + (resolve (.relative rr) (fetchOpcode s)).2.pageCrossed.toNat, Nat.add_le_add_left (Bool.toNat_le _) 1,
        congrArg (s.cycles + ·) (Nat.add_assoc _ _ _)⟩
    · exact ⟨0, Nat.zero_le _, rfl⟩
  | jump opcode m => exact ⟨0, Nat.le_refl 0, rfl⟩
  | call hhll => exact ⟨0, Nat.le_refl 0, by rw [opcode]; rfl⟩

/-- Of the 151 rows of R227 none has fewer than 2 cycles, and none more than 7 with its penalty. -/
theorem execShape_cycle_bounds (i : Instr) :
    2 ≤ baseCycles (execShape i).opcode ∧ baseCycles (execShape i).opcode + (execShape i).maxPenalty ≤ 7 := by
  cases i <;> dsimp only [execShape, ExecShape.opcode, ExecShape.maxPenalty] <;> decide

/-- Settles O58: 0 or 7 cycles for the interrupt check, then 2 to 7 for the instruction or none for the fault. -/
theorem stepCycleBounds : Obligations.StepCycleBounds := by
  intro s
  have hserviced := serviceInterrupts_cycles s
  obtain ⟨-, h⟩ | ⟨-, -, h⟩ | ⟨-, i, h⟩ := step_answers s <;> rw [h]
  · trivial
  · exact hserviced
  · obtain ⟨penalty, hpenalty, hrun⟩ := (execShape i).run_cycles (effect_cycles i) (serviceInterrupts s)
    obtain ⟨hlow, hhigh⟩ := execShape_cycle_bounds i
    have hcheck : (if selectService s = none then 0 else 7) ≤ 7 := by split <;> omega
    refine ⟨by omega, by omega, _, by rw [hostStep, h], ?_⟩
    omega

/-! ### The end of a run (R203) -/

/-- Rule 2, byte by byte. -/
theorem haltsHere_iff (s : State) :
    haltsHere s = true ↔ s.powered = true ∧ selectService s = none ∧ readByte s s.pc = 0x4C ∧
      readByte s (s.pc + 1) = lowByte s.pc ∧ readByte s (s.pc + 2) = highByte s.pc := by
  simp [haltsHere, fetchBytes, and_assoc]

/-- JMP absolute is admitted by either parameter (R77). -/
theorem decode_jmpAbs (admitted : AdmittedOpcodes) (w : Word) :
    decode admitted [0x4C, lowByte w, highByte w] = .ok (.jmpAbs w) [] :=
  decode_of_builds (by cases admitted <;> rfl) (.withWord .jmpAbs w) []

/-- A jump to itself leaves PC where it is (R145). -/
theorem step_of_haltsHere {s : State} (h : haltsHere s = true) :
    step s = .next { s with pageCrossed := false, cycles := s.cycles + 3 } := by
  obtain ⟨hpowered, hselect, hopcode, hlow, hhigh⟩ := (haltsHere_iff s).mp h
  have hfetch : fetchBytes s = [0x4C, lowByte s.pc, highByte s.pc] := by rw [fetchBytes, hopcode, hlow, hhigh]
  have hserviced := serviceInterrupts_of_none hselect
  have hdecode : decode s.params.admitted (fetchBytes (serviceInterrupts s)) = .ok (.jmpAbs s.pc) [] := by
    rw [hserviced, hfetch, decode_jmpAbs]
  obtain ⟨-, hexec, -⟩ := jmpSetsPcToTheResolvedAddress s.pc s
  rw [step_of_decode hpowered hdecode, hserviced, hexec]

theorem runToEnd_of_haltsHere {s : State} (h : haltsHere s = true) (n : Nat) : runToEnd n s = .halted s := by
  cases n <;> rw [runToEnd, if_pos h]

/-- Settles O59: a self-jump stays one, since the rule reads neither `page_crossed` nor the cycle counter; elsewhere a run goes
on by the answer of its next step. -/
theorem endOfRunAndSelfJump : Obligations.EndOfRunAndSelfJump := by
  intro s
  refine ⟨haltsHere_iff s, fun hhalts => ⟨⟨_, step_of_haltsHere hhalts, rfl, hhalts⟩, runToEnd_of_haltsHere hhalts⟩,
    fun hgoes => ⟨by simp [runToEnd, hgoes], fun n => ⟨fun t hstep => ?_, fun f hstep => ?_, fun r hstep => ?_⟩⟩⟩
  all_goals simp [runToEnd, hgoes, hstep]

end Sys2Proof.Machine
end

section
/-! SUPPORT. The host's calls (spec/60_exceptions.md R199, R200; 70_reset_and_hazards.md R210-R213): what each returns and leaves,
and that each keeps the invariant. -/

namespace Sys2Proof.Machine

/-! ### Power-on (R210) -/

/-- Settles O48: the fields are `powerOn`'s own; PC is by its source, one case each. -/
theorem powerOnGivesTheFixedState : Obligations.PowerOnGivesTheFixedState := by
  refine ⟨fun s => ?_, rfl⟩
  rw [powerOn, powerOnPC]
  cases s.params.powerOnPc <;> rfl

/-! ### Calls before power-on (R213) -/

/-- Settles O47: both calls are refused (D30), and powerOn overwrites what the setters wrote. -/
theorem stepAndResetNeedPower : Obligations.StepAndResetNeedPower := by
  refine ⟨fun s h => ?_, fun call s hcall => ?_, rfl, rfl, rfl, rfl⟩
  · have hstep := step_of_unpowered h
    exact ⟨hstep, by rw [hostCall, hostStep, hstep], by simp [hostCall, h]⟩
  · simp only [List.mem_cons, List.not_mem_nil, or_false] at hcall
    obtain rfl | rfl | rfl | rfl := hcall <;> rfl

/-! ### The table of calls -/

/-- SP - 3 as a number (R211). -/
theorem sub_three_eq_ofNat (sp : Byte) : sp - 3 = BitVec.ofNat 8 ((sp.toNat + 253) % 256) := by
  bv_omega

/-- reset() moves SP without a stack write and sets I; it requests nothing (D8) and adds no cycle (D9). -/
theorem warmReset_eq (s : State) :
    warmReset s =
      { s with sp := BitVec.ofNat 8 ((s.sp.toNat + 253) % 256), flags := { s.flags with i := true } } := by
  rw [warmReset, sub_three_eq_ofNat]
  rfl

/-- Settles O49: each call's row; the memory calls are reads and writes of one byte. -/
theorem hostCallsAnswerAsTheirTable : Obligations.HostCallsAnswerAsTheirTable := by
  intro s
  refine ⟨fun hpowered => ?_, rfl, rfl, fun _ => rfl, ⟨cycleCount s, BitVec.toNat_ofNat s.cycles 64, rfl⟩, rfl, rfl, rfl,
    fun _ => rfl, fun a v => ⟨rfl, readByte_writeByte_same s a v, fun _ h => readByte_writeByte_ne s v h⟩⟩
  simp only [hostCall, hpowered, if_true, warmReset_eq]

/-! ### The invariant across a call -/

/-- The host finds the state it had, when the call is refused, or one the step left. -/
theorem hostStep_left (s : State) :
    (hostStep s).2 = s ∨ step s = .next (hostStep s).2 ∨ ∃ f, step s = .fault f ∧ f.after = (hostStep s).2 := by
  obtain ⟨-, h⟩ | ⟨-, -, h⟩ | ⟨-, i, h⟩ := step_answers s <;> rw [hostStep, h]
  · exact .inl rfl
  · exact .inr (.inr ⟨_, rfl, rfl⟩)
  · exact .inr (.inl rfl)

theorem hostStep_mem_wf {s : State} (h : s.mem.wf = true) : (hostStep s).2.mem.wf = true := by
  obtain hsame | hleft := hostStep_left s
  · rwa [hsame]
  · obtain ⟨i, hexec⟩ | hfetch := step_cases hleft
    · exact exec_mem_wf hexec (serviceInterrupts_mem_wf h)
    · rw [hfetch]
      exact serviceInterrupts_mem_wf h

theorem hostStep_powered (s : State) : (hostStep s).2.powered = s.powered := by
  obtain hsame | hleft := hostStep_left s
  · rw [hsame]
  · obtain ⟨-, hkept, -⟩ := stepWritesNoRequestButByService s _ hleft
    exact hkept

/-- Beside step() only the host's own write changes memory (R200). -/
theorem hostCall_mem_wf (call : HostCall) {s : State} (h : s.mem.wf = true) : (hostCall call s).2.mem.wf = true := by
  cases call with
  | step => exact hostStep_mem_wf h
  | reset =>
    rw [hostCall]
    split <;> exact h
  | writeMemory a v => exact writeByte_mem_wf a v h
  | powerOn | setReset | setNmi | setIrq level | cycleCount | readMemory a => exact h

/-- No call takes power away. -/
theorem hostCall_powered (call : HostCall) {s : State} (h : s.powered = true) : (hostCall call s).2.powered = true := by
  cases call with
  | powerOn => rfl
  | step => exact (hostStep_powered s).trans h
  | reset =>
    rw [hostCall]
    split <;> exact h
  | writeMemory a v | setReset | setNmi | setIrq level | cycleCount | readMemory a => exact h

/-- Settles O52: a call keeps both halves of the invariant, and powerOn gives the second. -/
theorem hostCallsKeepMemoryCanonical : Obligations.HostCallsKeepMemoryCanonical := fun call _ =>
  ⟨hostCall_mem_wf call, fun ⟨hwf, hpowered⟩ => ⟨hostCall_mem_wf call hwf, hostCall_powered call hpowered⟩,
    fun hwf => ⟨hwf, rfl⟩⟩

end Sys2Proof.Machine
end
